-- ==== Sys2Proof/Word.lean ====
section
/-!
DEFINITION. The word types of the engine: a byte of the frame, a sequencer state code, and the level
of the line (00_scope.md R9, R11).
-/

namespace Sys2Proof

/-- One byte: a frame byte (10_state.md R24), or one byte of a code as the opcode table lays it out. -/
abbrev Byte := BitVec 8

/-- A sequencer state code (10_state.md R16). It holds the reserved codes too. -/
abbrev StCode := BitVec 4

/-- The level of the line, the source's `High|Low` level type (00_scope.md R11). -/
inductive Level where
  | low
  | high
  deriving DecidableEq, Repr, Inhabited

/-- How a level is encoded on a port: `High` is 1, `Low` is 0 (00_scope.md R11, 30_encoding.md R56). -/
def Level.toBit : Level → BitVec 1
  | .low => 0#1
  | .high => 1#1

/-- The other level. -/
def Level.flip : Level → Level
  | .low => .high
  | .high => .low

end Sys2Proof
end

