-- ==== Sys2Proof/Syntax.lean ====
section
/-!
DEFINITION. The instructions of the engine, one constructor per row of spec/opcode_table.json, and the
tick: the three inputs the host and the sensor give the engine in one step (30_encoding.md R58, R71).
-/

namespace Sys2Proof

/-- The operations of the engine, one per row of the opcode table. The hardware has no instruction
words (30_encoding.md): a row is a sequencer state code (R66, R67), the host command (R68), the reset
input (70_reset_and_hazards.md R151) or an outcome tag (R69). No row has an operand field. -/
inductive Instr where
  /-- IDLE, `st = 0x0`: wait for START (R66, R81, R82). -/
  | idle
  /-- WAKE_HIGH, `st = 0x1`: drive the line High (R83). -/
  | wakeHigh
  /-- START_LOW, `st = 0x2`: drive the line Low (R84). -/
  | startLow
  /-- RELEASE_WAIT, `st = 0x3`: wait out the High level after release (R92). -/
  | releaseWait
  /-- CAP_LOW, `st = 0x4`: count the Low phase of a pair (R94). -/
  | capLow
  /-- CAP_HIGH, `st = 0x5`: count the High phase of a pair (R95). -/
  | capHigh
  /-- THRESH, `st = 0x6`: latch the threshold (R106). -/
  | thresh
  /-- PACK, `st = 0x7`: classify and pack one data bit (R107). -/
  | pack
  /-- CHECK, `st = 0x8`: validate the checksum (R116). -/
  | check
  /-- START, `start = 1`: the one host command (R68, R82, R85). -/
  | start
  /-- NOCMD, `start = 0`: no command (R68, R81). -/
  | nocmd
  /-- RST, `rst = 1`: synchronous reset (R151). -/
  | rst
  /-- TAG.NONE, `out_tag = 0b00`: no outcome (R69, R131). -/
  | tagNone
  /-- COMPLETE.READING, `out_tag = 0b01` (R117). -/
  | completeReading
  /-- COMPLETE.TIMEOUT, `out_tag = 0b10` (R117, R139). -/
  | completeTimeout
  /-- COMPLETE.CHECKSUM_MISMATCH, `out_tag = 0b11` (R117). -/
  | completeMismatch
  /-- RESERVED_9, `st = 0x9` (R67). -/
  | reserved9
  /-- RESERVED_A, `st = 0xA` (R67). -/
  | reservedA
  /-- RESERVED_B, `st = 0xB` (R67). -/
  | reservedB
  /-- RESERVED_C, `st = 0xC` (R67). -/
  | reservedC
  /-- RESERVED_D, `st = 0xD` (R67). -/
  | reservedD
  /-- RESERVED_E, `st = 0xE` (R67). -/
  | reservedE
  /-- RESERVED_F, `st = 0xF` (R67). -/
  | reservedF
  deriving DecidableEq, Repr

/-- The format of an opcode-table row (its "format" field): which port or register the code stands on. -/
inductive Format where
  /-- the 4-bit sequencer state `st` (R66) -/
  | fsmState
  /-- the 1-bit input `start` (R68) -/
  | hostCmd
  /-- the 1-bit input `rst` (R151) -/
  | resetInput
  /-- the 2-bit register `out_tag` (R69) -/
  | outcomeTag
  deriving DecidableEq, Repr

/-- How many bits a code of a format has (the rows' "encoding" field). -/
def Format.width : Format → Nat
  | .fsmState => 4
  | .hostCmd => 1
  | .resetInput => 1
  | .outcomeTag => 2

/-- The outcome tag `out_tag`, whose four codes are all used (10_state.md R26, 30_encoding.md R69). -/
inductive OutTag where
  /-- no outcome: after reset, or while a read is in progress -/
  | none
  /-- frame captured and checksum valid -/
  | reading
  /-- a waited phase exceeded the ceiling -/
  | timeout
  /-- frame captured, checksum invalid -/
  | checksumMismatch
  deriving DecidableEq, Repr

/-- The inputs of one step: `rst`, `start` and `line`, each sampled once per tick (R13, R56, R58). -/
structure Tick where
  /-- synchronous reset (R151) -/
  rst : Bool
  /-- the host command START (R68) -/
  start : Bool
  /-- the sampled line level (R91) -/
  line : Level
  deriving DecidableEq, Repr, Inhabited

end Sys2Proof
end

