-- ==== Sys2Proof/Config.lean ====
section
/-!
DEFINITION. The elaboration parameters of the engine (00_scope.md R6), the parameters of this
machine, and the one free value of the model: the inputs of a tick that nothing has fixed.
-/

namespace Sys2Proof

/-- The elaboration-time parameters (00_scope.md R6) and the wiring of the line (60_exceptions.md
R146). A model takes each as an argument and no parameter changes while the engine runs (R6,
70_reset_and_hazards.md R162), so they are plain data that every step leaves as it is
(notes/assumptions/2.md). -/
structure Params where
  /-- `C` (CEILING): the most consecutive samples at one level a waited phase may last (R6, D5) -/
  ceiling : Nat
  /-- `WAKE_TICKS`: ticks the line is driven High (R6, D6) -/
  wakeTicks : Nat
  /-- `START_TICKS`: ticks the line is driven Low (R6, D6) -/
  startTicks : Nat
  /-- numerator of `F_TICK` in Hz, positive; no rule of a step depends on the rate (R6, D1,
  notes/assumptions/3.md) -/
  fTickNum : Nat
  /-- denominator of `F_TICK` in Hz, positive (R6, D1, notes/assumptions/3.md) -/
  fTickDen : Nat
  /-- drivers on the line besides this engine and the sensor (R146, U1, notes/assumptions/11.md) -/
  otherDrivers : Nat
  deriving DecidableEq, Repr

/-- The constraints of 00_scope.md R6 on each parameter by itself: `C`, `WAKE_TICKS` and `START_TICKS`
are at least 1, and `F_TICK` is positive (so neither its numerator nor its denominator is 0). -/
abbrev Params.Legal (p : Params) : Prop :=
  1 ≤ p.ceiling ∧ 1 ≤ p.wakeTicks ∧ 1 ≤ p.startTicks ∧ 1 ≤ p.fTickNum ∧ 1 ≤ p.fTickDen

/-- This engine is the only driver besides the sensor on its line (60_exceptions.md R146, U1). -/
abbrev Params.SoleDriver (p : Params) : Prop := p.otherDrivers = 0

/-- The configurations the spec gives an outcome: legal parameters, and one engine on the line. -/
abbrev Params.Usable (p : Params) : Prop := p.Legal ∧ p.SoleDriver

/-- `WAKE_TICKS * T_TICK >= 500 ms` (00_scope.md R6), the duty of 70_reset_and_hazards.md R157. The
engine does not check it. -/
abbrev Params.WakeLongEnough (p : Params) : Prop :=
  0 < p.fTickNum ∧ 0 < p.fTickDen ∧ 500 * p.fTickNum ≤ 1000 * p.wakeTicks * p.fTickDen

/-- `START_TICKS * T_TICK = 20 ms` (00_scope.md R6). The engine does not check it. -/
abbrev Params.StartPulseExact (p : Params) : Prop :=
  0 < p.fTickNum ∧ 0 < p.fTickDen ∧ 20 * p.fTickNum = 1000 * p.startTicks * p.fTickDen

/-- WAKE_TICKS less 1, OPEN in the spec (D6): nothing constrains it. -/
opaque Config.wakeTicksPred : Nat

/-- START_TICKS less 1, OPEN in the spec (D6): nothing constrains it. -/
opaque Config.startTicksPred : Nat

/-- Numerator of F_TICK less 1, OPEN in the spec (D1): nothing constrains it. -/
opaque Config.fTickNumPred : Nat

/-- Denominator of F_TICK less 1, OPEN in the spec (D1): nothing constrains it. -/
opaque Config.fTickDenPred : Nat

/-- The parameters of this hardware: `C` at its default 128000 (00_scope.md R6, D5), the OPEN ones any
positive numbers (D1, D6), and no other driver on the line (R146). DESIGN CHOICE
(notes/assumptions/2.md). -/
def Config.params : Params where
  ceiling := 128000
  wakeTicks := Config.wakeTicksPred + 1
  startTicks := Config.startTicksPred + 1
  fTickNum := Config.fTickNumPred + 1
  fTickDen := Config.fTickDenPred + 1
  otherDrivers := 0

/-- FREE VALUE: the inputs sampled in the n-th tick, where the environment has fixed none. The spec
takes `line` as a free input of each step, "a draw" (10_state.md R14), and `start` and `rst` are the
host's. DESIGN CHOICE (notes/assumptions/1.md). -/
opaque Config.freeTick : Nat → Tick

end Sys2Proof
end

