-- ==== Sys2Proof/WellFormed.lean ====
section
/-!
DEFINITION. What is well formed: a code of the opcode table, an instruction, and a configuration.
-/

namespace Sys2Proof

/-- A code byte of a format: the bits above the format's width do not exist and are 0, and the reset
input has the one code `rst = 1` (`rst = 0` is no row of the opcode table). -/
def codeWF (f : Format) (b : Byte) : Bool :=
  decide (b.toNat < 2 ^ f.width) && (f != .resetInput || b == 1#8)

/-- No instruction of this hardware has an operand, so each is well formed as it stands; written with
one arm per constructor, so that a constructor added later must be given its check. -/
def Instr.wf : Instr → Bool
  | .idle => true
  | .wakeHigh => true
  | .startLow => true
  | .releaseWait => true
  | .capLow => true
  | .capHigh => true
  | .thresh => true
  | .pack => true
  | .check => true
  | .start => true
  | .nocmd => true
  | .rst => true
  | .tagNone => true
  | .completeReading => true
  | .completeTimeout => true
  | .completeMismatch => true
  | .reserved9 => true
  | .reservedA => true
  | .reservedB => true
  | .reservedC => true
  | .reservedD => true
  | .reservedE => true
  | .reservedF => true

/-- A configuration the spec gives an outcome (00_scope.md R6, 60_exceptions.md R146). -/
def Params.wf (p : Params) : Bool := decide p.Usable

end Sys2Proof
end

