-- ==== Sys2Proof/Decode.lean ====
section
/-!
DEFINITION. The decoder, total on any format and any bytes and rejecting by name, and the encoder, both
from the encoding tables of 30_encoding.md R66 to R69. Four formats share the numbers 0 to 3, so a code
is read together with the port or register it stands on (notes/assumptions/6.md). A code takes one
byte, its unused high bits 0, as the opcode table numbers them.
-/

namespace Sys2Proof

/-! The state codes (30_encoding.md R66). -/

/-- IDLE. -/
@[simp] abbrev St.idle : StCode := 0x0#4
/-- WAKE_HIGH. -/
@[simp] abbrev St.wakeHigh : StCode := 0x1#4
/-- START_LOW. -/
@[simp] abbrev St.startLow : StCode := 0x2#4
/-- RELEASE_WAIT. -/
@[simp] abbrev St.releaseWait : StCode := 0x3#4
/-- CAP_LOW. -/
@[simp] abbrev St.capLow : StCode := 0x4#4
/-- CAP_HIGH. -/
@[simp] abbrev St.capHigh : StCode := 0x5#4
/-- THRESH. -/
@[simp] abbrev St.thresh : StCode := 0x6#4
/-- PACK. -/
@[simp] abbrev St.pack : StCode := 0x7#4
/-- CHECK. -/
@[simp] abbrev St.check : StCode := 0x8#4

/-- Why a code is refused. -/
inductive DecodeError where
  /-- no byte to read -/
  | noBytes
  /-- a bit above the format's width is 1: no such bit exists -/
  | bitsBeyondField
  /-- `rst = 0` is no row of the opcode table -/
  | resetNotAsserted
  deriving DecidableEq, Repr

/-- The sequencer state codes in order, `0x0` to `0xF` (30_encoding.md R66, R67). -/
def stateTable : Vector Instr 16 :=
  #v[.idle, .wakeHigh, .startLow, .releaseWait, .capLow, .capHigh, .thresh, .pack,
    .check, .reserved9, .reservedA, .reservedB, .reservedC, .reservedD, .reservedE, .reservedF]

/-- The operation a state code selects (30_encoding.md R66, R67). Total: every 4-bit code is a row. -/
def decodeState (c : StCode) : Instr := stateTable[c.toNat]

/-- The host command (30_encoding.md R68). -/
def decodeCmd (c : BitVec 1) : Instr :=
  match c with
  | 0#1 => .nocmd
  | 1#1 => .start

/-- The outcome tags (30_encoding.md R69). -/
def decodeTag (c : BitVec 2) : Instr :=
  match c with
  | 0b00#2 => .tagNone
  | 0b01#2 => .completeReading
  | 0b10#2 => .completeTimeout
  | 0b11#2 => .completeMismatch

/-- One code byte of a format. -/
def decodeByte (f : Format) (b : Byte) : Except DecodeError Instr :=
  if b.toNat < 2 ^ f.width then
    match f with
    | .fsmState => .ok (decodeState (b.setWidth 4))
    | .hostCmd => .ok (decodeCmd (b.setWidth 1))
    | .resetInput => if b = 1#8 then .ok .rst else .error .resetNotAsserted
    | .outcomeTag => .ok (decodeTag (b.setWidth 2))
  else .error .bitsBeyondField

/-- The decoder: the instruction at the front of the bytes, and the bytes after it. -/
def decode (f : Format) : List Byte → Except DecodeError (Instr × List Byte)
  | [] => .error .noBytes
  | b :: rest =>
    match decodeByte f b with
    | .ok i => .ok (i, rest)
    | .error e => .error e

/-- The format of an instruction's row. -/
def Instr.format : Instr → Format
  | .idle => .fsmState
  | .wakeHigh => .fsmState
  | .startLow => .fsmState
  | .releaseWait => .fsmState
  | .capLow => .fsmState
  | .capHigh => .fsmState
  | .thresh => .fsmState
  | .pack => .fsmState
  | .check => .fsmState
  | .start => .hostCmd
  | .nocmd => .hostCmd
  | .rst => .resetInput
  | .tagNone => .outcomeTag
  | .completeReading => .outcomeTag
  | .completeTimeout => .outcomeTag
  | .completeMismatch => .outcomeTag
  | .reserved9 => .fsmState
  | .reservedA => .fsmState
  | .reservedB => .fsmState
  | .reservedC => .fsmState
  | .reservedD => .fsmState
  | .reservedE => .fsmState
  | .reservedF => .fsmState

/-- The code byte of an instruction (30_encoding.md R66 to R69). -/
def encodeByte : Instr → Byte
  | .idle => 0x00#8
  | .wakeHigh => 0x01#8
  | .startLow => 0x02#8
  | .releaseWait => 0x03#8
  | .capLow => 0x04#8
  | .capHigh => 0x05#8
  | .thresh => 0x06#8
  | .pack => 0x07#8
  | .check => 0x08#8
  | .start => 0x01#8
  | .nocmd => 0x00#8
  | .rst => 0x01#8
  | .tagNone => 0x00#8
  | .completeReading => 0x01#8
  | .completeTimeout => 0x02#8
  | .completeMismatch => 0x03#8
  | .reserved9 => 0x09#8
  | .reservedA => 0x0A#8
  | .reservedB => 0x0B#8
  | .reservedC => 0x0C#8
  | .reservedD => 0x0D#8
  | .reservedE => 0x0E#8
  | .reservedF => 0x0F#8

/-- The encoder: the bytes of an instruction's code. -/
def encode (i : Instr) : List Byte := [encodeByte i]

/-- The format that a width of the opcode table stands for where the width alone decides it: a 1-bit
row is read as the host command, a 2-bit row as an outcome tag, and anything else as a state code
(notes/assumptions/6.md). -/
def formatOfBits (nbits : Nat) : Format :=
  if nbits = 1 then .hostCmd else if nbits = 2 then .outcomeTag else .fsmState

/-- The instruction the decoder reads from an opcode-table row's bits. -/
def decodeTableWord (nbits w : Nat) : Option Instr :=
  if w < 256 then
    match decode (formatOfBits nbits) [BitVec.ofNat 8 w] with
    | .ok (i, _) => some i
    | .error _ => none
  else none

/-- The 2-bit code of an outcome tag (30_encoding.md R69). -/
def OutTag.code : OutTag → BitVec 2
  | .none => 0b00#2
  | .reading => 0b01#2
  | .timeout => 0b10#2
  | .checksumMismatch => 0b11#2

end Sys2Proof
end

