-- ==== Sys2Proof/Machine/State.lean ====
section
/-!
DEFINITION. The state of the engine as plain data (10_state.md R15 to R31), the reasons a step can
stop, and the state after reset (10_state.md R35).
-/

namespace Sys2Proof.Machine

/-- Why the machine stops with a fault. -/
inductive Fault where
  /-- A reserved `st` code has no defined step (10_state.md R37, U3). Raised by RESERVED_9 to
  RESERVED_F. Safe: the spec says a model treats it as a fault. -/
  | reservedState (code : StCode)
  /-- A rule would form an index outside the capture buffer (20_memory.md R42). Raised by CAP_LOW and
  CAP_HIGH with `pidx > 40` and by PACK with `kidx > 39`, which no run from reset reaches. Safe: the
  model stops where the spec names no entry (notes/assumptions/5.md). -/
  | storageIndex (index : Nat)
  deriving DecidableEq, Repr

/-- Why the machine gives a step no outcome. -/
inductive Refusal where
  /-- An instruction without a meaning. Raised by no arm of `exec` now. Safe. -/
  | notModelled (mnemonic : String)
  /-- A second driver on the line: undefined at the hardware level, and a model refuses the
  configuration (60_exceptions.md R146, U1). Raised by `step`. Safe. -/
  | sharedLine
  /-- `C`, `WAKE_TICKS` or `START_TICKS` is 0, or `F_TICK` is not positive, outside the constraints of
  00_scope.md R6. Raised by `step`. Safe (notes/assumptions/12.md). -/
  | illegalParameter
  deriving DecidableEq, Repr

/-- The machine's state: the configuration, the engine's complete state of 10_state.md R15, and the
model's own account of the inputs. -/
structure State where
  /-- the parameters, constant for a run (00_scope.md R6; notes/assumptions/2.md) -/
  cfg : Params
  /-- sequencer state (R16) -/
  st : StCode
  /-- hold counter (R17) -/
  hold : Nat
  /-- phase counter (R18) -/
  cnt : Nat
  /-- index of the pulse pair being captured (R19) -/
  pidx : BitVec 6
  /-- index of the data bit being packed (R20) -/
  kidx : BitVec 6
  /-- capture buffer (R21) -/
  slot : Vector Nat 82
  /-- threshold accumulator (R22) -/
  hsum : Nat
  /-- threshold register THR40 (R23) -/
  thr : Nat
  /-- frame bytes (R24) -/
  fb : Vector Byte 5
  /-- checksum accumulator (R25) -/
  csum : Byte
  /-- outcome tag (R26) -/
  outTag : OutTag
  /-- raw humidity of the last READING (R27) -/
  outHum : BitVec 16
  /-- temperature sign of the last READING (R28) -/
  outTsign : Bool
  /-- temperature magnitude of the last READING (R29) -/
  outTmag : BitVec 15
  /-- frame of the last READING (R30) -/
  outFrame : BitVec 40
  /-- completion strobe (R31) -/
  done : Bool
  /-- the model's own: the ticks the environment has already fixed, the next one first
  (notes/assumptions/1.md) -/
  stim : List Tick
  /-- the model's own: how many steps were taken, the argument of the free inputs
  (notes/assumptions/1.md) -/
  tick : Nat
  deriving DecidableEq, Repr

/-- The reset table of 10_state.md R35, for any configuration, inputs and tick counter. -/
def State.resetWith (p : Params) (stim : List Tick) (tick : Nat) : State where
  cfg := p
  st := St.idle
  hold := 0
  cnt := 0
  pidx := 0#6
  kidx := 0#6
  slot := Vector.replicate 82 0
  hsum := 0
  thr := 0
  fb := Vector.replicate 5 0#8
  csum := 0#8
  outTag := .none
  outHum := 0#16
  outTsign := false
  outTmag := 0#15
  outFrame := 0#40
  done := false
  stim := stim
  tick := tick

/-- The machine right after reset (10_state.md R35, 70_reset_and_hazards.md R151, R153): the reset
table, the parameters of Config, and no input fixed yet. -/
def State.reset : State := State.resetWith Config.params [] 0

end Sys2Proof.Machine
end

