-- ==== Sys2Proof/Machine/Flags.lean ====
section
/-!
DEFINITION. The flags and the output ports: `done` is state (10_state.md R31); `busy` and the pad
outputs are functions of `st` (10_state.md R32, R33); the ports are those of 30_encoding.md R58.
-/

namespace Sys2Proof.Machine

/-- `busy = (st != IDLE)` (10_state.md R32). -/
def State.busy (s : State) : Bool := s.st != St.idle

/-- `pad_oe`: the engine drives the line (10_state.md R33). -/
def State.padOe (s : State) : Bool := s.st == St.wakeHigh || s.st == St.startLow

/-- `pad_out`: the level driven, 0 while the line is released (10_state.md R33). -/
def State.padOut (s : State) : Bool := s.st == St.wakeHigh

/-- The states that sample the line (41_capture.md R91). -/
def State.waiting (s : State) : Bool :=
  s.st == St.releaseWait || s.st == St.capLow || s.st == St.capHigh

/-- The output ports (30_encoding.md R58). -/
structure Ports where
  padOe : Bool
  padOut : Bool
  busy : Bool
  done : Bool
  outTag : BitVec 2
  outHum : BitVec 16
  outTsign : Bool
  outTmag : BitVec 15
  outFrame : BitVec 40
  deriving DecidableEq, Repr

/-- What the host sees after the latest completed step; reading it changes nothing (20_memory.md R50,
R52). -/
def State.ports (s : State) : Ports where
  padOe := s.padOe
  padOut := s.padOut
  busy := s.busy
  done := s.done
  outTag := s.outTag.code
  outHum := s.outHum
  outTsign := s.outTsign
  outTmag := s.outTmag
  outFrame := s.outFrame

end Sys2Proof.Machine
end

