-- ==== Sys2Proof/Machine/Operands.lean ====
section
/-!
DEFINITION. Operand forms: which entry of the capture buffer and of the frame bytes a rule names
(20_memory.md R41 to R43), how the data outputs are assembled from the frame bytes (30_encoding.md R61
to R63), the physical values (43_check_outcome.md R119, R120) and the register widths (00_scope.md R8).
-/

namespace Sys2Proof.Machine

/-- Slot of the Low phase of pair `i` (20_memory.md R41). -/
def lowSlot (pidx : BitVec 6) : Nat := 2 * pidx.toNat

/-- Slot of the High phase of pair `i` (20_memory.md R41). -/
def highSlot (pidx : BitVec 6) : Nat := 2 * pidx.toNat + 1

/-- Slot of the High phase of the pair that carries data bit `k`, pair `k + 1` (42_decode.md R107). -/
def dataSlot (kidx : BitVec 6) : Nat := 2 * (kidx.toNat + 1) + 1

/-- Frame byte that data bit `k` is shifted into (42_decode.md R107). -/
def byteIndex (kidx : BitVec 6) : Nat := kidx.toNat / 8

/-- `SlotRead(n)`: the entry, or nothing outside `0 .. 81` (20_memory.md R42). -/
def slotRead (s : State) (n : Nat) : Option Nat := s.slot[n]?

/-- `FrameByte(j)`: the entry, or nothing outside `0 .. 4` (20_memory.md R43). -/
def frameByte (s : State) (j : Nat) : Option Byte := s.fb[j]?

/-- What PACK reads: the High duration of the data bit, and the byte it is shifted into (R107). -/
def packOperands (s : State) : Option (Nat × Byte) :=
  match slotRead s (dataSlot s.kidx), frameByte s (byteIndex s.kidx) with
  | some d, some b => some (d, b)
  | _, _ => none

/-- Classification law (42_decode.md R108): a bit is 1 when `40*d >= thr`; ties are 1. -/
def classify (d thr : Nat) : Bool := decide (thr ≤ 40 * d)

/-- The destination byte shifted left by one with the bit in its low place, modulo 256 (R107). -/
def shiftIn (b : Byte) (bit : Bool) : Byte := (b <<< 1) ||| (if bit then 1#8 else 0#8)

/-- `HUM = b0*256 + b1` (30_encoding.md R63). -/
def humField (fb : Vector Byte 5) : BitVec 16 := fb[0].setWidth 16 * 256#16 + fb[1].setWidth 16

/-- `TSIGN = b2[7]` (30_encoding.md R63). -/
def tsignField (fb : Vector Byte 5) : Bool := fb[2].getLsbD 7

/-- `TMAG = (b2 & 0x7F)*256 + b3` (30_encoding.md R63). -/
def tmagField (fb : Vector Byte 5) : BitVec 15 :=
  (fb[2] &&& 0x7F#8).setWidth 15 * 256#15 + fb[3].setWidth 15

/-- `F = {b0, b1, b2, b3, b4}` (30_encoding.md R62, 20_memory.md R46). -/
def frameField (fb : Vector Byte 5) : BitVec 40 := fb[0] ++ fb[1] ++ fb[2] ++ fb[3] ++ fb[4]

/-- `(b0 + b1 + b2 + b3) mod 256`, the checksum of a payload (30_encoding.md R64). -/
def payloadSum (fb : Vector Byte 5) : Byte := fb[0] + fb[1] + fb[2] + fb[3]

/-- The humidity of a READING in %RH, an exact rational (43_check_outcome.md R119). -/
def State.humidity (s : State) : ℚ := (s.outHum.toNat : ℚ) / 10

/-- The temperature of a READING in degrees, an exact rational (43_check_outcome.md R120). The two
zeros have one rational value; `outTsign` keeps them apart. -/
def State.temperature (s : State) : ℚ :=
  (if s.outTsign then -1 else 1) * (s.outTmag.toNat : ℚ) / 10

/-- `ceil(log2 n)`. -/
def ceilLog2 (n : Nat) : Nat := if n ≤ 1 then 0 else Nat.log2 (n - 1) + 1

/-- `W_CNT`, the width of `cnt` and of a slot (00_scope.md R8). -/
def wCnt (p : Params) : Nat := ceilLog2 (p.ceiling + 1)

/-- `W_SUM`, the width of `hsum`, `thr` and `40*d` (00_scope.md R8). -/
def wSum (p : Params) : Nat := ceilLog2 (40 * p.ceiling + 1)

/-- `W_HOLD`, the width of `hold`, at least 1 (00_scope.md R8). -/
def wHold (p : Params) : Nat := max 1 (ceilLog2 (max p.wakeTicks p.startTicks))

end Sys2Proof.Machine
end

