-- ==== Sys2Proof/Machine/Ops.lean ====
section
/-!
DEFINITION. The named operations the meanings share: the inputs of a step, reset, the outcome
registers, COMPLETE (this hardware's trap entry, 60_exceptions.md R139), the acceptance of START, the
storage primitives, and what the step does around an instruction. There is no return from a trap
(60_exceptions.md R141): after COMPLETE the engine is in IDLE.
-/

namespace Sys2Proof.Machine

/-! ### Inputs -/

/-- The inputs this step samples (10_state.md R13): the next tick the environment has fixed, or, where
it has fixed none, a free value (notes/assumptions/1.md). -/
def State.inputs (s : State) : Tick := s.stim.headD (Config.freeTick s.tick)

/-- The step is over: its tick is used up. -/
def State.advance (s : State) : State := { s with stim := s.stim.tail, tick := s.tick + 1 }

/-- `s` with `t` as the tick the next step samples. -/
def State.withTick (s : State) (t : Tick) : State := { s with stim := t :: s.stim.tail }

/-! ### Reset -/

/-- Every register at its reset value (10_state.md R35, 70_reset_and_hazards.md R151). The parameters
and the inputs are no registers. -/
def resetRegs (s : State) : State := State.resetWith s.cfg s.stim s.tick

/-! ### Outcome registers -/

/-- The outcome registers at "no outcome": tag NONE, data outputs 0, `done` 0 (30_encoding.md R69,
40_handshake.md R82, 60_exceptions.md R131). -/
def clearOutcome (s : State) : State :=
  { s with
    outTag := .none, outHum := 0#16, outTsign := false, outTmag := 0#15, outFrame := 0#40,
    done := false }

/-- `COMPLETE(tag)` (43_check_outcome.md R117): the one way a read ends, and the abort entry of
60_exceptions.md R139. Only READING writes the data outputs. -/
def complete (tag : OutTag) (s : State) : State :=
  { s with
    outTag := tag
    outHum := if tag = .reading then humField s.fb else s.outHum
    outTsign := if tag = .reading then tsignField s.fb else s.outTsign
    outTmag := if tag = .reading then tmagField s.fb else s.outTmag
    outFrame := if tag = .reading then frameField s.fb else s.outFrame
    done := true
    st := St.idle }

/-! ### Host command -/

/-- START is taken only in a tick with `st = IDLE` and `rst = 0` (30_encoding.md R68). -/
def commandTaken (s : State) : Bool := s.st == St.idle && !s.inputs.rst

/-- IDLE with no command (40_handshake.md R81). -/
def idleNoCommand (s : State) : State := { s with done := false }

/-- IDLE with START (40_handshake.md R82): every per-read register and the outcome registers are
cleared, and the wake signal begins. -/
def acceptStart (s : State) : State :=
  { s with
    hold := 0, cnt := 0, pidx := 0#6, kidx := 0#6
    slot := Vector.replicate 82 0
    hsum := 0, thr := 0
    fb := Vector.replicate 5 0#8
    csum := 0#8
    outTag := .none, outHum := 0#16, outTsign := false, outTmag := 0#15, outFrame := 0#40
    done := false
    st := St.wakeHigh }

/-! ### Hold phases -/

/-- One more tick of a hold phase (40_handshake.md R83, R84). -/
def holdCount (s : State) : State := { s with hold := s.hold + 1, done := false }

/-- The last tick of WAKE_HIGH: the start pulse follows with no gap (40_handshake.md R83, R87). -/
def wakeEnd (s : State) : State := { s with hold := 0, st := St.startLow, done := false }

/-- The last tick of START_LOW: the line is released and sampled from the next tick on
(40_handshake.md R84). -/
def startPulseEnd (s : State) : State :=
  { s with hold := 0, cnt := 0, st := St.releaseWait, done := false }

/-- One tick of a hold phase that lasts `len` ticks: count, or leave it through `finish`
(40_handshake.md R83, R84). -/
def holdTick (len : Nat) (finish : State → State) (s : State) : State :=
  if len ≤ s.hold + 1 then finish s else holdCount s

/-! ### Waited phases -/

/-- One more sample of the phase (41_capture.md R92, R94, R95). -/
def countSample (s : State) : State := { s with cnt := s.cnt + 1, done := false }

/-- One more sample at the level waited out: count it, or, when it is the `(C+1)`-th, time out
(41_capture.md R92, R94, R95, R97). -/
def sameLevelSample (s : State) : State :=
  if s.cnt = s.cfg.ceiling then complete .timeout s else countSample s

/-- `slot[n] <- v` (20_memory.md R42). -/
def storeSlot (n v : Nat) (s : State) : State := { s with slot := s.slot.setIfInBounds n v }

/-- `SlotWrite(n, v)`, then `rest`; an index outside `0 .. 81` names no entry (20_memory.md R42;
notes/assumptions/5.md). `rest` reads no slot, so it sees pre-step values (00_scope.md R10). -/
def slotWrite (n v : Nat) (s : State) (rest : State → State) : Host.Outcome State Fault Refusal :=
  if n < 82 then .next (rest (storeSlot n v s)) else .fault (.storageIndex n)

/-- The Low that ends the release wait: the first sample of pair 0 (41_capture.md R92). -/
def releaseEnd (s : State) : State :=
  { s with cnt := 1, pidx := 0#6, st := St.capLow, done := false }

/-- After the Low phase of a pair is stored: its High is the first High sample (41_capture.md R94). -/
def lowPhaseEnd (s : State) : State := { s with cnt := 1, st := St.capHigh, done := false }

/-- After the High phase of a pair is stored (41_capture.md R95): a data-bit pair enters the sum; the
last pair ends the capture, and any other Low is the first sample of the next pair. -/
def highPhaseEnd (s : State) : State :=
  { s with
    hsum := if 1 ≤ s.pidx.toNat then s.hsum + s.cnt else s.hsum
    st := if s.pidx = 40#6 then St.thresh else St.capLow
    pidx := if s.pidx = 40#6 then s.pidx else s.pidx + 1#6
    cnt := if s.pidx = 40#6 then s.cnt else 1
    done := false }

/-! ### Decoding -/

/-- Latch the threshold (42_decode.md R106). -/
def latchThreshold (s : State) : State :=
  { s with thr := s.hsum, kidx := 0#6, st := St.pack, done := false }

/-- Pack one data bit of High duration `d` into the byte `b` (42_decode.md R107). -/
def packBit (d : Nat) (b : Byte) (s : State) : State :=
  { s with
    fb := s.fb.setIfInBounds (byteIndex s.kidx) (shiftIn b (classify d s.thr))
    csum := if s.kidx.toNat % 8 = 7 ∧ byteIndex s.kidx ≤ 3
      then s.csum + shiftIn b (classify d s.thr) else s.csum
    st := if s.kidx = 39#6 then St.check else s.st
    kidx := if s.kidx = 39#6 then s.kidx else s.kidx + 1#6
    done := false }

/-! ### Around an instruction -/

/-- What the engine runs in this step, as a format and a code: `rst` has priority over the state's own
rule (60_exceptions.md R137). -/
def State.fetch (s : State) : Format × List Byte :=
  if s.inputs.rst then (.resetInput, [1#8]) else (.fsmState, [s.st.setWidth 8])

/-- The instruction of this step: reset, or the operation `st` selects (30_encoding.md R66,
60_exceptions.md R137). -/
def State.op (s : State) : Instr := if s.inputs.rst then .rst else decodeState s.st

/-- Why a configuration has no outcome: a second driver (60_exceptions.md R146), or a parameter outside
00_scope.md R6. -/
def configRefusal (p : Params) : Option Refusal :=
  if ¬ p.SoleDriver then some .sharedLine
  else if ¬ p.Legal then some .illegalParameter
  else none

/-- Apply `f` to a next state; a stop stays as it is. -/
def onNext (o : Host.Outcome State Fault Refusal) (f : State → State) :
    Host.Outcome State Fault Refusal :=
  match o with
  | .next s => .next (f s)
  | .fault r => .fault r
  | .refused r => .refused r

/-! ### Placing an instruction for the next step (notes/assumptions/14.md) -/

/-- The tick that stands in where the environment has fixed none: no command, the line at the pull-up's
High (70_reset_and_hazards.md R154). -/
def quietTick : Tick := { rst := false, start := false, line := .high }

/-- `s` in the sequencer state `c`, in a tick without reset, the rest of the tick as it was fixed. -/
def State.placeState (s : State) (c : StCode) : State :=
  { s.withTick { s.stim.headD quietTick with rst := false } with st := c }

/-- `s` with everything the next step needs to run `i`: an operation's state code; a command with IDLE
to take it; `rst`; or, for an outcome, the state and registers in which the step performs it. -/
def State.place (s : State) (i : Instr) : State :=
  match i with
  | .start => { s.withTick { quietTick with start := true } with st := St.idle }
  | .nocmd => { s.withTick quietTick with st := St.idle }
  | .rst => s.withTick { quietTick with rst := true }
  | .tagNone => { s.withTick { quietTick with start := true } with st := St.idle }
  | .completeReading => { s.withTick quietTick with st := St.check, csum := s.fb[4] }
  | .completeTimeout => { s.withTick quietTick with st := St.releaseWait, cnt := s.cfg.ceiling }
  | .completeMismatch => { s.withTick quietTick with st := St.check, csum := s.fb[4] + 1#8 }
  | .idle => s.placeState St.idle
  | .wakeHigh => s.placeState St.wakeHigh
  | .startLow => s.placeState St.startLow
  | .releaseWait => s.placeState St.releaseWait
  | .capLow => s.placeState St.capLow
  | .capHigh => s.placeState St.capHigh
  | .thresh => s.placeState St.thresh
  | .pack => s.placeState St.pack
  | .check => s.placeState St.check
  | .reserved9 => s.placeState 0x9#4
  | .reservedA => s.placeState 0xA#4
  | .reservedB => s.placeState 0xB#4
  | .reservedC => s.placeState 0xC#4
  | .reservedD => s.placeState 0xD#4
  | .reservedE => s.placeState 0xE#4
  | .reservedF => s.placeState 0xF#4

end Sys2Proof.Machine
end

