-- ==== Sys2Proof/Machine/Capture.lean ====
section
/-!
DEFINITION. The pulse-duration edge sampler (41_capture.md R92, R94, R95).
-/

namespace Sys2Proof.Machine

/-- RELEASE_WAIT (R92): wait out the High level after release; its length is stored nowhere. -/
def execReleaseWait (s : State) : Host.Outcome State Fault Refusal :=
  match s.inputs.line with
  | .high => .next (sameLevelSample s)
  | .low => .next (releaseEnd s)

/-- CAP_LOW (R94): count the Low phase of pair `pidx`; a High ends it, with its duration stored. -/
def execCapLow (s : State) : Host.Outcome State Fault Refusal :=
  match s.inputs.line with
  | .low => .next (sameLevelSample s)
  | .high => slotWrite (lowSlot s.pidx) s.cnt s lowPhaseEnd

/-- CAP_HIGH (R95): count the High phase of pair `pidx`; a Low ends it, with its duration stored. -/
def execCapHigh (s : State) : Host.Outcome State Fault Refusal :=
  match s.inputs.line with
  | .high => .next (sameLevelSample s)
  | .low => slotWrite (highSlot s.pidx) s.cnt s highPhaseEnd

end Sys2Proof.Machine
end

