-- ==== Sys2Proof/Machine/Decoder.lean ====
section
/-!
DEFINITION. The threshold logic, the bit decoder and the byte packer (42_decode.md R106, R107).
-/

namespace Sys2Proof.Machine

/-- THRESH (R106): latch THR40. -/
def execThresh (s : State) : Host.Outcome State Fault Refusal := .next (latchThreshold s)

/-- PACK (R107): classify data bit `kidx`, shift it into its byte, accumulate the checksum. -/
def execPack (s : State) : Host.Outcome State Fault Refusal :=
  match packOperands s with
  | some (d, b) => .next (packBit d b s)
  | none => .fault (.storageIndex (dataSlot s.kidx))

end Sys2Proof.Machine
end

