-- ==== Sys2Proof/Machine/Handshake.lean ====
section
/-!
DEFINITION. The start-signal sequencer and the host command (40_handshake.md R81 to R85).
-/

namespace Sys2Proof.Machine

/-- IDLE (R81, R82): take START if it is given. `line` is ignored. -/
def execIdle (s : State) : Host.Outcome State Fault Refusal :=
  .next (if s.inputs.start then acceptStart s else idleNoCommand s)

/-- WAKE_HIGH (R83): the line is driven High for `WAKE_TICKS` ticks. -/
def execWakeHigh (s : State) : Host.Outcome State Fault Refusal :=
  .next (holdTick s.cfg.wakeTicks wakeEnd s)

/-- START_LOW (R84): the line is driven Low for `START_TICKS` ticks, then released. -/
def execStartLow (s : State) : Host.Outcome State Fault Refusal :=
  .next (holdTick s.cfg.startTicks startPulseEnd s)

/-- START (R82, R85): accepted in IDLE without `rst`; in every other tick the command has no effect on
any register (notes/assumptions/7.md). -/
def execStart (s : State) : Host.Outcome State Fault Refusal :=
  .next (if commandTaken s then acceptStart s else s)

/-- NOCMD (R81, 30_encoding.md R68): `start = 0` is no command; an idle engine clears `done`
(notes/assumptions/7.md). -/
def execNocmd (s : State) : Host.Outcome State Fault Refusal :=
  .next (if commandTaken s then idleNoCommand s else s)

end Sys2Proof.Machine
end

