-- ==== Sys2Proof/Machine/Outcome.lean ====
section
/-!
DEFINITION. The checksum validator and the typed outcome encoder (43_check_outcome.md R116, R117;
30_encoding.md R69).
-/

namespace Sys2Proof.Machine

/-- CHECK (R116): validate the checksum, then COMPLETE. -/
def execCheck (s : State) : Host.Outcome State Fault Refusal :=
  .next (complete (if s.csum = s.fb[4] then .reading else .checksumMismatch) s)

/-- TAG.NONE (30_encoding.md R69, 60_exceptions.md R131): the outcome registers at no outcome, as START
and `rst` write them (notes/assumptions/8.md). -/
def execTagNone (s : State) : Host.Outcome State Fault Refusal := .next (clearOutcome s)

/-- COMPLETE.READING (R117). -/
def execCompleteReading (s : State) : Host.Outcome State Fault Refusal :=
  .next (complete .reading s)

/-- COMPLETE.TIMEOUT (R117, 60_exceptions.md R139). -/
def execCompleteTimeout (s : State) : Host.Outcome State Fault Refusal :=
  .next (complete .timeout s)

/-- COMPLETE.CHECKSUM_MISMATCH (R117). -/
def execCompleteMismatch (s : State) : Host.Outcome State Fault Refusal :=
  .next (complete .checksumMismatch s)

end Sys2Proof.Machine
end

