-- ==== Sys2Proof/Machine/Reset.lean ====
section
/-!
DEFINITION. Reset (70_reset_and_hazards.md R151) and the reserved state codes, which have no defined
step (10_state.md R37, 30_encoding.md R67).
-/

namespace Sys2Proof.Machine

/-- RST (70_reset_and_hazards.md R151): every register takes its reset value. -/
def execRst (s : State) : Host.Outcome State Fault Refusal := .next (resetRegs s)

/-- RESERVED_9 (10_state.md R37). -/
def execReserved9 (_s : State) : Host.Outcome State Fault Refusal := .fault (.reservedState 0x9#4)

/-- RESERVED_A (10_state.md R37). -/
def execReservedA (_s : State) : Host.Outcome State Fault Refusal := .fault (.reservedState 0xA#4)

/-- RESERVED_B (10_state.md R37). -/
def execReservedB (_s : State) : Host.Outcome State Fault Refusal := .fault (.reservedState 0xB#4)

/-- RESERVED_C (10_state.md R37). -/
def execReservedC (_s : State) : Host.Outcome State Fault Refusal := .fault (.reservedState 0xC#4)

/-- RESERVED_D (10_state.md R37). -/
def execReservedD (_s : State) : Host.Outcome State Fault Refusal := .fault (.reservedState 0xD#4)

/-- RESERVED_E (10_state.md R37). -/
def execReservedE (_s : State) : Host.Outcome State Fault Refusal := .fault (.reservedState 0xE#4)

/-- RESERVED_F (10_state.md R37). -/
def execReservedF (_s : State) : Host.Outcome State Fault Refusal := .fault (.reservedState 0xF#4)

end Sys2Proof.Machine
end

