-- ==== Sys2Proof/Machine/Dispatch.lean ====
section
/-!
DEFINITION. One arm per instruction.
-/

namespace Sys2Proof.Machine

def exec (i : Instr) (s : State) : Host.Outcome State Fault Refusal :=
  match i with
  | .idle => Sys2Proof.Machine.execIdle s
  | .wakeHigh => Sys2Proof.Machine.execWakeHigh s
  | .startLow => Sys2Proof.Machine.execStartLow s
  | .releaseWait => Sys2Proof.Machine.execReleaseWait s
  | .capLow => Sys2Proof.Machine.execCapLow s
  | .capHigh => Sys2Proof.Machine.execCapHigh s
  | .thresh => Sys2Proof.Machine.execThresh s
  | .pack => Sys2Proof.Machine.execPack s
  | .check => Sys2Proof.Machine.execCheck s
  | .start => Sys2Proof.Machine.execStart s
  | .nocmd => Sys2Proof.Machine.execNocmd s
  | .rst => Sys2Proof.Machine.execRst s
  | .tagNone => Sys2Proof.Machine.execTagNone s
  | .completeReading => Sys2Proof.Machine.execCompleteReading s
  | .completeTimeout => Sys2Proof.Machine.execCompleteTimeout s
  | .completeMismatch => Sys2Proof.Machine.execCompleteMismatch s
  | .reserved9 => Sys2Proof.Machine.execReserved9 s
  | .reservedA => Sys2Proof.Machine.execReservedA s
  | .reservedB => Sys2Proof.Machine.execReservedB s
  | .reservedC => Sys2Proof.Machine.execReservedC s
  | .reservedD => Sys2Proof.Machine.execReservedD s
  | .reservedE => Sys2Proof.Machine.execReservedE s
  | .reservedF => Sys2Proof.Machine.execReservedF s

end Sys2Proof.Machine
end

