-- ==== Sys2Proof/Machine/Step.lean ====
section
/-!
DEFINITION. One step of the engine, one sample tick (10_state.md R13): the instruction of the step, with
reset above the state's own rule (60_exceptions.md R137), then the tick is used up. A configuration the
spec gives no outcome is refused first (60_exceptions.md R146, 00_scope.md R6).
-/

namespace Sys2Proof.Machine

/-- One sample tick. -/
def step (s : State) : Host.Outcome State Fault Refusal :=
  match configRefusal s.cfg with
  | some r => .refused r
  | none => onNext (exec s.op s) State.advance

/-- `s` with the instruction of an opcode-table row placed where the next step finds it
(notes/assumptions/14.md). Bits that are no code leave `s` as it is. -/
def State.withFetchWord (s : State) (nbits w : Nat) : State :=
  match decodeTableWord nbits w with
  | some i => s.place i
  | none => s

end Sys2Proof.Machine
end

