-- ==== Sys2Proof/Machine/Stimulus.lean ====
section
/-!
DEFINITION. The stimulus notation, the assembler syntax of this hardware (30_encoding.md R71, R72), and
runs of several ticks.
-/

namespace Sys2Proof.Machine

/-! ### Ticks (R71) -/

/-- `START`: one tick with `start = 1`. DESIGN CHOICE (notes/assumptions/21.md): R71 leaves its line
value open, and the model writes High. -/
def Stim.start : Tick := { rst := false, start := true, line := .high }

/-- `NOP` or `DRIVE`: one tick with `start = 0`. `DRIVE` and `NOP` ticks have `line = High`
(95_test_vectors.md part 3). -/
def Stim.nop : Tick := { rst := false, start := false, line := .high }

/-- `RST`: one tick with `rst = 1`. DESIGN CHOICE (notes/assumptions/21.md): R71 leaves its `start` and
`line` open, and the model writes 0 and High. R151 ignores both. -/
def Stim.rst : Tick := { rst := true, start := false, line := .high }

/-- A tick with `start = 0` and the line at a level. -/
def Stim.sample (l : Level) : Tick := { rst := false, start := false, line := l }

/-- `H^n`. -/
def Stim.high (n : Nat) : List Tick := List.replicate n (Stim.sample .high)

/-- `L^n`. -/
def Stim.low (n : Nat) : List Tick := List.replicate n (Stim.sample .low)

/-! ### Pulse pairs and frames (R72) -/

/-- `L^a H^h`: one pulse pair; `BIT0(l, s)` is `pair l s`, `BIT1(l, g)` is `pair l g`. -/
def Stim.pair (a h : Nat) : List Tick := Stim.low a ++ Stim.high h

/-- `BIT0(l, s)` or `BIT1(l, g)`. -/
def Stim.bit (l s g : Nat) (b : Bool) : List Tick := Stim.pair l (if b then g else s)

/-- The bits of a byte from bit 7 down to bit 0. -/
def Stim.byteBits (v : Byte) : List Bool := (List.range 8).map fun m => v.getMsbD m

/-- `BYTE(v; l, s, g)`. -/
def Stim.byte (v : Byte) (l s g : Nat) : List Tick := (Stim.byteBits v).flatMap (Stim.bit l s g)

/-- `FRAME(b0,b1,b2,b3,b4; r, al, ah, l, s, g)`. -/
def Stim.frame (b0 b1 b2 b3 b4 : Byte) (r al ah l s g : Nat) : List Tick :=
  Stim.high r ++ Stim.pair al ah ++
    ([b0, b1, b2, b3, b4].flatMap fun v => Stim.byte v l s g) ++ Stim.low 1

/-- The line sequence of 41_capture.md R96: `H^r`, the pairs `L^a H^h`, and the terminating Low. -/
def Stim.capture (r : Nat) (pairs : List (Nat × Nat)) : List Tick :=
  Stim.high r ++ (pairs.flatMap fun p => Stim.pair p.1 p.2) ++ Stim.low 1

/-- The line levels of a sequence of ticks. -/
def Stim.lines (ts : List Tick) : List Level := ts.map Tick.line

/-- No tick of the sequence asserts `rst`. -/
def Stim.noReset (ts : List Tick) : Bool := ts.all fun t => !t.rst

/-! ### Runs -/

/-- `n` ticks, stopping at the first fault or refusal. -/
def run : Nat → State → Host.Outcome State Fault Refusal
  | 0, s => .next s
  | n + 1, s =>
    match step s with
    | .next t => run n t
    | .fault r => .fault r
    | .refused r => .refused r

end Sys2Proof.Machine
end

