-- ==== Sys2Proof/Safety.lean ====
section
/-!
DEFINITION. What a good state is: the ranges and invariants of 10_state.md R36, what a capture and a
decode in progress have recorded (41_capture.md R96, R98; 42_decode.md R112), and the causes of a
timeout (60_exceptions.md R132).
-/

namespace Sys2Proof.Machine

/-- The data outputs all read 0. -/
abbrev State.DataZero (s : State) : Prop :=
  s.outHum = 0#16 ∧ s.outTsign = false ∧ s.outTmag = 0#15 ∧ s.outFrame = 0#40

/-- The clauses (a) to (h) of 10_state.md R36. -/
structure State.RangesHold (s : State) : Prop where
  /-- (a) -/
  st_le : s.st.toNat ≤ 8
  /-- (b) -/
  cnt_le : s.cnt ≤ s.cfg.ceiling
  /-- (c), in WAKE_HIGH -/
  hold_wake : s.st = St.wakeHigh → s.hold < s.cfg.wakeTicks
  /-- (c), in START_LOW -/
  hold_start : s.st = St.startLow → s.hold < s.cfg.startTicks
  /-- (d) -/
  cnt_pos : s.st = St.capLow ∨ s.st = St.capHigh → 1 ≤ s.cnt
  /-- (e), the pair -/
  pidx_le : s.pidx.toNat ≤ 40
  /-- (e), the data bit -/
  kidx_le : s.kidx.toNat ≤ 39
  /-- (f), the sum -/
  hsum_le : s.hsum ≤ 40 * s.cfg.ceiling
  /-- (f), the threshold -/
  thr_le : s.thr ≤ 40 * s.cfg.ceiling
  /-- (f), the slots -/
  slot_le : ∀ n (h : n < 82), s.slot[n] ≤ s.cfg.ceiling
  /-- (g) -/
  idle_released : s.busy = false → s.padOe = false
  /-- (h) -/
  no_reading_no_data : s.outTag ≠ .reading → s.DataZero

/-- R36 with what makes it inductive: a usable configuration, the range of `hold` (R17), what the sum
holds at each point of a read, and that a read in progress shows no outcome (20_memory.md R53). -/
structure State.Inv (s : State) : Prop extends State.RangesHold s where
  /-- the configuration has an outcome -/
  usable : s.cfg.Usable
  /-- the range of `hold` (R17) -/
  hold_lt : s.hold < max s.cfg.wakeTicks s.cfg.startTicks
  /-- nothing is summed before the capture -/
  hsum_early : s.st = St.wakeHigh ∨ s.st = St.startLow ∨ s.st = St.releaseWait → s.hsum = 0
  /-- at most one full duration per data-bit pair already captured -/
  hsum_capture : s.st = St.capLow ∨ s.st = St.capHigh →
    s.hsum ≤ (s.pidx.toNat - 1) * s.cfg.ceiling
  /-- a read in progress shows no outcome (20_memory.md R53) -/
  busy_none : s.st ≠ St.idle → s.outTag = .none ∧ s.done = false
  /-- the strobe comes with an outcome (R31) -/
  done_outcome : s.done = true → s.outTag ≠ .none

/-- The High duration that carries data bit `k`: slot `2k + 3` (20_memory.md R41). -/
def dataDuration (slot : Vector Nat 82) (k : Nat) : Nat := slot[2 * k + 3]?.getD 0

/-- The sum of the High durations of the first `n` data-bit pairs (10_state.md R22). -/
def dataSum (slot : Vector Nat 82) : Nat → Nat
  | 0 => 0
  | n + 1 => dataSum slot n + dataDuration slot n

/-- What the capture has recorded so far: the captured slots hold real durations, and `hsum` is the sum
of the data-bit Highs among them (41_capture.md R96, R98). -/
structure State.CaptureRecord (s : State) : Prop where
  /-- while a Low phase is counted, both phases of every earlier pair are stored -/
  low_stored : s.st = St.capLow → ∀ n (h : n < 82), n < 2 * s.pidx.toNat → 1 ≤ s.slot[n]
  /-- while a High phase is counted, the Low phase of its pair is stored too -/
  high_stored : s.st = St.capHigh → ∀ n (h : n < 82), n < 2 * s.pidx.toNat + 1 → 1 ≤ s.slot[n]
  /-- the sum of the data-bit pairs captured -/
  sum_capture : s.st = St.capLow ∨ s.st = St.capHigh →
    s.hsum = dataSum s.slot (s.pidx.toNat - 1)
  /-- after the capture every slot holds a duration of at least 1 (R98) -/
  all_stored : s.st = St.thresh ∨ s.st = St.pack ∨ s.st = St.check →
    ∀ n (h : n < 82), 1 ≤ s.slot[n]
  /-- after the capture `hsum` is the sum of the 40 data-bit Highs (R96) -/
  sum_complete : s.st = St.thresh ∨ s.st = St.pack ∨ s.st = St.check →
    s.hsum = dataSum s.slot 40

/-- Frame byte `j` after its first `m` bits (42_decode.md R107, R108). -/
def packedByte (slot : Vector Nat 82) (thr j : Nat) : Nat → Byte
  | 0 => 0#8
  | m + 1 => shiftIn (packedByte slot thr j m) (classify (dataDuration slot (8 * j + m)) thr)

/-- The sum modulo 256 of the first `n` frame bytes (10_state.md R25). -/
def bytePrefixSum (fb : Vector Byte 5) : Nat → Byte
  | 0 => 0#8
  | n + 1 => bytePrefixSum fb n + fb[n]?.getD 0#8

/-- What the decoder has packed so far (42_decode.md R106, R107, R112). -/
structure State.DecodeRecord (s : State) : Prop where
  /-- nothing is packed before PACK -/
  before : s.st = St.wakeHigh ∨ s.st = St.startLow ∨ s.st = St.releaseWait ∨ s.st = St.capLow ∨
      s.st = St.capHigh ∨ s.st = St.thresh → s.fb = Vector.replicate 5 0#8 ∧ s.csum = 0#8
  /-- the threshold is the sum (R106) -/
  threshold : s.st = St.pack ∨ s.st = St.check → s.thr = s.hsum
  /-- in PACK, the first `kidx` data bits are in their bytes -/
  packing : s.st = St.pack → ∀ j (h : j < 5),
    s.fb[j] = packedByte s.slot s.thr j (min 8 (s.kidx.toNat - 8 * j))
  /-- in PACK, `csum` is the sum of the completed bytes among 0 to 3 -/
  summing : s.st = St.pack → s.csum = bytePrefixSum s.fb (min 4 (s.kidx.toNat / 8))
  /-- in CHECK, all 40 data bits are in their bytes -/
  packed : s.st = St.check → ∀ j (h : j < 5), s.fb[j] = packedByte s.slot s.thr j 8
  /-- in CHECK, `csum` is the sum of bytes 0 to 3 (R112) -/
  summed : s.st = St.check → s.csum = payloadSum s.fb

/-- The level a waiting state waits out (41_capture.md R92, R94, R95). -/
def State.phaseLevel (s : State) : Level := if s.st = St.capLow then .low else .high

/-- The causes of a TIMEOUT (60_exceptions.md R132): the release wait, and the Low and the High phase
of each pair. -/
inductive TimeoutCause where
  | release
  | low (pair : Fin 41)
  | high (pair : Fin 41)
  deriving DecidableEq, Repr

/-- Every cause once. -/
def TimeoutCause.all : List TimeoutCause :=
  .release :: ((List.finRange 41).map .low ++ (List.finRange 41).map .high)

/-- The cause for which the state's own rule times out in this step, if it does (60_exceptions.md
R132): the `(C+1)`-th sample at the level waited out. -/
def State.timeoutCause (s : State) : Option TimeoutCause :=
  if s.cnt = s.cfg.ceiling ∧ s.inputs.line = s.phaseLevel then
    if s.st = St.releaseWait then some .release
    else if h : s.pidx.toNat < 41 then
      if s.st = St.capLow then some (.low ⟨s.pidx.toNat, h⟩)
      else if s.st = St.capHigh then some (.high ⟨s.pidx.toNat, h⟩)
      else none
    else none
  else none

end Sys2Proof.Machine
end

