-- ==== Sys2Proof/Certificates/Slice0/Obligations.lean ====
section
/-!
DEFINITION. The statements for the provers. Each docstring names the rule of spec/ it formalises.
-/

open Sys2Proof Sys2Proof.Machine

/-! ### Encoding -/

/-- 30_encoding.md R66 to R69, 70_reset_and_hazards.md R151: the decoder reads back what the encoder
writes, and each code of a format has one meaning. That the format is an argument, that a code stands in
one byte, and that the decoder refuses exactly the bytes with bits above the format's width (and
`rst = 0`, no row of the table) is the model's choice (notes/assumptions/6.md). -/
def Obligations.DecodeAndEncodeAgree : Prop :=
  (∀ (i : Instr) (rest : List Byte), i.wf = true →
    decode i.format (encode i ++ rest) = .ok (i, rest)) ∧
  (∀ (f : Format) (bytes : List Byte) (i : Instr) (rest : List Byte),
    decode f bytes = .ok (i, rest) → i.format = f ∧ bytes = encode i ++ rest) ∧
  (∀ (f : Format) (b : Byte), codeWF f b = true ↔ ∃ i, decodeByte f b = .ok i)

/-- 30_encoding.md R66, R67, R68, R69, 70_reset_and_hazards.md R151: every code of the tables, written
out, and the operation it stands for. That the tags stand for operations is the model's choice
(notes/assumptions/8.md), and so is the format argument (notes/assumptions/6.md). -/
def Obligations.CodesOfTheTables : Prop :=
  decode .fsmState [0b0000#8] = .ok (.idle, []) ∧
  decode .fsmState [0b0001#8] = .ok (.wakeHigh, []) ∧
  decode .fsmState [0b0010#8] = .ok (.startLow, []) ∧
  decode .fsmState [0b0011#8] = .ok (.releaseWait, []) ∧
  decode .fsmState [0b0100#8] = .ok (.capLow, []) ∧
  decode .fsmState [0b0101#8] = .ok (.capHigh, []) ∧
  decode .fsmState [0b0110#8] = .ok (.thresh, []) ∧
  decode .fsmState [0b0111#8] = .ok (.pack, []) ∧
  decode .fsmState [0b1000#8] = .ok (.check, []) ∧
  decode .fsmState [0b1001#8] = .ok (.reserved9, []) ∧
  decode .fsmState [0b1010#8] = .ok (.reservedA, []) ∧
  decode .fsmState [0b1011#8] = .ok (.reservedB, []) ∧
  decode .fsmState [0b1100#8] = .ok (.reservedC, []) ∧
  decode .fsmState [0b1101#8] = .ok (.reservedD, []) ∧
  decode .fsmState [0b1110#8] = .ok (.reservedE, []) ∧
  decode .fsmState [0b1111#8] = .ok (.reservedF, []) ∧
  decode .hostCmd [0b1#8] = .ok (.start, []) ∧
  decode .hostCmd [0b0#8] = .ok (.nocmd, []) ∧
  decode .resetInput [0b1#8] = .ok (.rst, []) ∧
  decode .outcomeTag [0b00#8] = .ok (.tagNone, []) ∧
  decode .outcomeTag [0b01#8] = .ok (.completeReading, []) ∧
  decode .outcomeTag [0b10#8] = .ok (.completeTimeout, []) ∧
  decode .outcomeTag [0b11#8] = .ok (.completeMismatch, [])

/-! ### One step -/

/-- 10_state.md R13, 30_encoding.md R66, 60_exceptions.md R137: what the step fetches always decodes, to
RST when `rst = 1` and to the operation of `st` otherwise, and the step is exec of it, after which the
tick is used up (notes/assumptions/1.md). -/
def Obligations.StepRunsTheDecodedInstruction : Prop :=
  (∀ s : State, ∃ i, decode s.fetch.1 s.fetch.2 = .ok (i, []) ∧ i.wf = true ∧
    i = if s.inputs.rst then .rst else decodeState s.st) ∧
  (∀ (s : State) (i : Instr), s.cfg.Usable → i.wf = true →
    decode s.fetch.1 s.fetch.2 = .ok (i, []) →
    step s = onNext (exec i s) (fun u => { u with stim := u.stim.tail, tick := u.tick + 1 }))

/-- 60_exceptions.md R146, 00_scope.md R6: a configuration with a second driver on the line has no
outcome in any state; every usable one is never refused. That a parameter outside the constraints of R6
(`C`, `WAKE_TICKS` or `START_TICKS` of 0, `F_TICK` not positive) is refused is the model's inference
(notes/assumptions/12.md). -/
def Obligations.ConfigurationsRefused : Prop :=
  (∀ s : State, s.cfg.otherDrivers ≠ 0 → step s = .refused .sharedLine) ∧
  (∀ s : State, s.cfg.otherDrivers = 0 →
    s.cfg.ceiling = 0 ∨ s.cfg.wakeTicks = 0 ∨ s.cfg.startTicks = 0 ∨ s.cfg.fTickNum = 0 ∨
      s.cfg.fTickDen = 0 →
    step s = .refused .illegalParameter) ∧
  (∀ (s : State) (r : Refusal), s.cfg.Usable → step s ≠ .refused r)

/-- 70_reset_and_hazards.md R162, 00_scope.md R6: no step changes a parameter. The clauses on `stim` and
`tick` are the model's account of the inputs (notes/assumptions/1.md). -/
def Obligations.ParametersNeverChange : Prop :=
  ∀ s t : State, step s = .next t →
    t.cfg = s.cfg ∧ t.stim = s.stim.tail ∧ t.tick = s.tick + 1

/-! ### Reset -/

/-- 70_reset_and_hazards.md R151 with the table of 10_state.md R35: in any state, whatever the other
inputs, a step with `rst = 1` leaves every register at its reset value, with no COMPLETE and the pad
released. -/
def Obligations.ResetOverridesEverything : Prop :=
  ∀ s : State, s.cfg.Usable → s.inputs.rst = true →
    exec .rst s = .next
      { cfg := s.cfg, st := 0x0#4, hold := 0, cnt := 0, pidx := 0#6, kidx := 0#6,
        slot := Vector.replicate 82 0, hsum := 0, thr := 0, fb := Vector.replicate 5 0#8,
        csum := 0#8, outTag := .none, outHum := 0#16, outTsign := false, outTmag := 0#15,
        outFrame := 0#40, done := false, stim := s.stim, tick := s.tick } ∧
    step s = .next (State.resetWith s.cfg s.stim.tail (s.tick + 1)) ∧
    ∃ t, step s = .next t ∧
      t = { cfg := s.cfg, st := 0x0#4, hold := 0, cnt := 0, pidx := 0#6, kidx := 0#6,
            slot := Vector.replicate 82 0, hsum := 0, thr := 0, fb := Vector.replicate 5 0#8,
            csum := 0#8, outTag := .none, outHum := 0#16, outTsign := false, outTmag := 0#15,
            outFrame := 0#40, done := false, stim := s.stim.tail, tick := s.tick + 1 } ∧
      t.busy = false ∧ t.padOe = false ∧ t.padOut = false

/-- 10_state.md R35, 70_reset_and_hazards.md R153: the state the model starts from. Its ceiling is the
spec's default 128000 (00_scope.md R6). -/
def Obligations.ResetStateIsTheResetTable : Prop :=
  State.reset.st = 0x0#4 ∧ State.reset.hold = 0 ∧ State.reset.cnt = 0 ∧
  State.reset.pidx = 0#6 ∧ State.reset.kidx = 0#6 ∧
  (∀ n (h : n < 82), State.reset.slot[n] = 0) ∧
  State.reset.hsum = 0 ∧ State.reset.thr = 0 ∧
  (∀ j (h : j < 5), State.reset.fb[j] = 0#8) ∧ State.reset.csum = 0#8 ∧
  State.reset.outTag = .none ∧ State.reset.outHum = 0#16 ∧ State.reset.outTsign = false ∧
  State.reset.outTmag = 0#15 ∧ State.reset.outFrame = 0#40 ∧ State.reset.done = false ∧
  State.reset.busy = false ∧ State.reset.padOe = false ∧ State.reset.padOut = false ∧
  State.reset.cfg.ceiling = 128000 ∧ State.reset.cfg.Usable

/-! ### Handshake -/

/-- 40_handshake.md R81, R82: IDLE without a command clears `done` and nothing else; IDLE with START
clears every per-read register and the outcome registers and enters WAKE_HIGH. -/
def Obligations.IdleTakesStart : Prop :=
  (∀ s : State, s.inputs.start = false → exec .idle s = .next { s with done := false }) ∧
  (∀ s : State, s.inputs.start = true → exec .idle s = .next
    { cfg := s.cfg, st := 0x1#4, hold := 0, cnt := 0, pidx := 0#6, kidx := 0#6,
      slot := Vector.replicate 82 0, hsum := 0, thr := 0, fb := Vector.replicate 5 0#8,
      csum := 0#8, outTag := .none, outHum := 0#16, outTsign := false, outTmag := 0#15,
      outFrame := 0#40, done := false, stim := s.stim, tick := s.tick })

/-- 30_encoding.md R68, 40_handshake.md R81, R82, R85: the command START begins a read in IDLE without
`rst` and is turned away in every other tick; no command clears `done` in IDLE
(notes/assumptions/7.md). -/
def Obligations.CommandsTakenOnlyInIdle : Prop :=
  (∀ s : State, s.st = 0x0#4 → s.inputs.rst = false → exec .start s = .next
    { cfg := s.cfg, st := 0x1#4, hold := 0, cnt := 0, pidx := 0#6, kidx := 0#6,
      slot := Vector.replicate 82 0, hsum := 0, thr := 0, fb := Vector.replicate 5 0#8,
      csum := 0#8, outTag := .none, outHum := 0#16, outTsign := false, outTmag := 0#15,
      outFrame := 0#40, done := false, stim := s.stim, tick := s.tick }) ∧
  (∀ s : State, s.st = 0x0#4 → s.inputs.rst = false →
    exec .nocmd s = .next { s with done := false }) ∧
  (∀ s : State, s.st ≠ 0x0#4 ∨ s.inputs.rst = true →
    exec .start s = .next s ∧ exec .nocmd s = .next s)

/-- 40_handshake.md R83, R84: one tick of WAKE_HIGH and of START_LOW. -/
def Obligations.HoldPhasesCountTicks : Prop :=
  (∀ s : State, s.cfg.wakeTicks ≤ s.hold + 1 →
    exec .wakeHigh s = .next { s with hold := 0, st := 0x2#4, done := false }) ∧
  (∀ s : State, s.hold + 1 < s.cfg.wakeTicks →
    exec .wakeHigh s = .next { s with hold := s.hold + 1, done := false }) ∧
  (∀ s : State, s.cfg.startTicks ≤ s.hold + 1 →
    exec .startLow s = .next { s with hold := 0, cnt := 0, st := 0x3#4, done := false }) ∧
  (∀ s : State, s.hold + 1 < s.cfg.startTicks →
    exec .startLow s = .next { s with hold := s.hold + 1, done := false })

/-- 10_state.md R33 (the pad table) and R32 (`busy`). -/
def Obligations.PadAndBusyFollowTheState : Prop :=
  ∀ s : State,
    (s.st = 0x1#4 → s.padOe = true ∧ s.padOut = true) ∧
    (s.st = 0x2#4 → s.padOe = true ∧ s.padOut = false) ∧
    (s.st ≠ 0x1#4 → s.st ≠ 0x2#4 → s.padOe = false ∧ s.padOut = false) ∧
    (s.busy = true ↔ s.st ≠ 0x0#4)

/-- 40_handshake.md R87: in one read the line is driven High for exactly `WAKE_TICKS` ticks and then Low
for exactly `START_TICKS` ticks, with no gap; before and after it is released, and only an accepted
START makes the engine drive it again. -/
def Obligations.LineDrivenExactly : Prop :=
  (∀ (s : State) (i : Tick) (ts rest : List Tick), s.cfg.Usable → s.st = 0x0#4 →
    s.stim = i :: (ts ++ rest) → i.start = true → i.rst = false → Stim.noReset ts = true →
    ts.length = s.cfg.wakeTicks + s.cfg.startTicks →
    s.padOe = false ∧
    (∀ k < s.cfg.wakeTicks, ∃ u, run (1 + k) s = .next u ∧ u.padOe = true ∧ u.padOut = true) ∧
    (∀ k < s.cfg.startTicks,
      ∃ u, run (1 + s.cfg.wakeTicks + k) s = .next u ∧ u.padOe = true ∧ u.padOut = false) ∧
    ∃ u, run (1 + s.cfg.wakeTicks + s.cfg.startTicks) s = .next u ∧ u.padOe = false ∧
      u.st = 0x3#4 ∧ u.cnt = 0 ∧ u.stim = rest) ∧
  (∀ s t : State, step s = .next t → s.padOe = false → t.padOe = true →
    s.st = 0x0#4 ∧ s.inputs.start = true ∧ s.inputs.rst = false)

/-- 40_handshake.md R85: in every step with `st ≠ IDLE` the value of `start` has no effect on any
register. -/
def Obligations.StartIgnoredWhileBusy : Prop :=
  ∀ (s : State) (i : Tick) (rest : List Tick) (b : Bool), s.st ≠ 0x0#4 →
    step { s with stim := { i with start := b } :: rest } = step { s with stim := i :: rest }

/-- 40_handshake.md R82 (b), 00_scope.md R12: after an accepted START nothing of earlier reads is left,
so two engines that differ only in what earlier reads left take the same step. -/
def Obligations.ReadForgetsThePast : Prop :=
  ∀ s s' : State, s.cfg.Usable → s'.cfg = s.cfg → s'.stim = s.stim → s'.tick = s.tick →
    s.st = 0x0#4 → s'.st = 0x0#4 → s.inputs.start = true → s.inputs.rst = false →
    step s' = step s ∧ ∃ t, step s = .next t ∧ t.st = 0x1#4

/-! ### Capture -/

/-- 41_capture.md R92: RELEASE_WAIT, in each of its three cases. -/
def Obligations.ReleaseWaitTick : Prop :=
  (∀ s : State, s.inputs.line = .high → s.cnt = s.cfg.ceiling → exec .releaseWait s =
    .next { s with outTag := .timeout, done := true, st := 0x0#4 }) ∧
  (∀ s : State, s.inputs.line = .high → s.cnt ≠ s.cfg.ceiling → exec .releaseWait s =
    .next { s with cnt := s.cnt + 1, done := false }) ∧
  (∀ s : State, s.inputs.line = .low → exec .releaseWait s =
    .next { s with cnt := 1, pidx := 0#6, st := 0x4#4, done := false })

/-- 41_capture.md R94: CAP_LOW, in each of its three cases; only slot `2*pidx` is written. A pair
outside `0 .. 40` has no slot (20_memory.md R42, notes/assumptions/5.md). -/
def Obligations.CapLowTick : Prop :=
  (∀ s : State, s.inputs.line = .low → s.cnt = s.cfg.ceiling → exec .capLow s =
    .next { s with outTag := .timeout, done := true, st := 0x0#4 }) ∧
  (∀ s : State, s.inputs.line = .low → s.cnt ≠ s.cfg.ceiling → exec .capLow s =
    .next { s with cnt := s.cnt + 1, done := false }) ∧
  (∀ s : State, s.inputs.line = .high → s.pidx.toNat ≤ 40 → ∃ t, exec .capLow s = .next t ∧
    t = { s with slot := t.slot, cnt := 1, st := 0x5#4, done := false } ∧
    ∀ n (h : n < 82), t.slot[n] = if n = 2 * s.pidx.toNat then s.cnt else s.slot[n]) ∧
  (∀ s : State, s.inputs.line = .high → 40 < s.pidx.toNat →
    exec .capLow s = .fault (.storageIndex (2 * s.pidx.toNat)))

/-- 41_capture.md R95: CAP_HIGH, in each of its cases; only slot `2*pidx + 1` is written. A pair outside
`0 .. 40` has no slot (20_memory.md R42, notes/assumptions/5.md). -/
def Obligations.CapHighTick : Prop :=
  (∀ s : State, s.inputs.line = .high → s.cnt = s.cfg.ceiling → exec .capHigh s =
    .next { s with outTag := .timeout, done := true, st := 0x0#4 }) ∧
  (∀ s : State, s.inputs.line = .high → s.cnt ≠ s.cfg.ceiling → exec .capHigh s =
    .next { s with cnt := s.cnt + 1, done := false }) ∧
  (∀ s : State, s.inputs.line = .low → s.pidx.toNat < 40 → ∃ t, exec .capHigh s = .next t ∧
    t = { s with slot := t.slot, hsum := if 1 ≤ s.pidx.toNat then s.hsum + s.cnt else s.hsum,
                 pidx := t.pidx, cnt := 1, st := 0x4#4, done := false } ∧
    t.pidx.toNat = s.pidx.toNat + 1 ∧
    ∀ n (h : n < 82), t.slot[n] = if n = 2 * s.pidx.toNat + 1 then s.cnt else s.slot[n]) ∧
  (∀ s : State, s.inputs.line = .low → s.pidx.toNat = 40 → ∃ t, exec .capHigh s = .next t ∧
    t = { s with slot := t.slot, hsum := s.hsum + s.cnt, st := 0x6#4, done := false } ∧
    ∀ n (h : n < 82), t.slot[n] = if n = 81 then s.cnt else s.slot[n]) ∧
  (∀ s : State, s.inputs.line = .low → 40 < s.pidx.toNat →
    exec .capHigh s = .fault (.storageIndex (2 * s.pidx.toNat + 1)))

/-- 41_capture.md R91: the line is read in the waiting states, where the two levels give two outcomes,
and has no effect in any other state. -/
def Obligations.LineReadOnlyWhileWaiting : Prop :=
  (∀ (s : State) (i : Tick) (rest : List Tick) (l : Level),
    s.st ≠ 0x3#4 → s.st ≠ 0x4#4 → s.st ≠ 0x5#4 →
    step { s with stim := { i with line := l } :: rest } = step { s with stim := i :: rest }) ∧
  (∀ (s : State) (i : Tick) (rest : List Tick), s.cfg.Usable → i.rst = false →
    s.st = 0x3#4 ∨ s.st = 0x4#4 ∨ s.st = 0x5#4 →
    step { s with stim := { i with line := .low } :: rest } ≠
      step { s with stim := { i with line := .high } :: rest })

/-- 60_exceptions.md R138: with `cnt = C`, a sample at the other level ends the phase normally with
duration `C`; only a sample at the same level times out. -/
def Obligations.LevelChangeBeatsTheCeiling : Prop :=
  (∀ s : State, s.cfg.Usable → s.inputs.rst = false → s.cnt = s.cfg.ceiling →
    s.pidx.toNat ≤ 40 →
    (s.st = 0x3#4 → s.inputs.line = .low → ∃ t, step s = .next t ∧ t.st = 0x4#4 ∧
      t.outTag = s.outTag ∧ t.done = false) ∧
    (s.st = 0x4#4 → s.inputs.line = .high → ∃ t, step s = .next t ∧ t.st = 0x5#4 ∧
      t.outTag = s.outTag ∧ t.done = false ∧ t.slot[2 * s.pidx.toNat]? = some s.cfg.ceiling) ∧
    (s.st = 0x5#4 → s.inputs.line = .low → ∃ t, step s = .next t ∧
      (t.st = 0x4#4 ∨ t.st = 0x6#4) ∧ t.outTag = s.outTag ∧ t.done = false ∧
      t.slot[2 * s.pidx.toNat + 1]? = some s.cfg.ceiling)) ∧
  (∀ s t : State, s.waiting = true → s.inputs.rst = false → step s = .next t → t.done = true →
    t.outTag = .timeout ∧ s.cnt = s.cfg.ceiling ∧
      s.inputs.line = (if s.st = 0x4#4 then .low else .high))

/-- 41_capture.md R99, 60_exceptions.md R139: a waited phase that reaches `C + 1` samples ends the read
as TIMEOUT, with the overrunning sample the last one consumed, nothing stored, the data outputs 0 and
the line released. -/
def Obligations.OverlongPhaseTimesOut : Prop :=
  ∀ (s : State) (ts rest : List Tick), s.cfg.Usable → s.waiting = true →
    s.cnt ≤ s.cfg.ceiling → s.stim = ts ++ rest → ts.length = s.cfg.ceiling + 1 - s.cnt →
    (∀ i ∈ ts, i.rst = false ∧ i.line = s.phaseLevel) →
    ∃ t, run ts.length s = .next t ∧
      t = { s with cnt := s.cfg.ceiling, outTag := .timeout, done := true, st := 0x0#4,
                   stim := rest, tick := s.tick + ts.length } ∧
      t.padOe = false ∧ (s.Inv → t.DataZero)

/-- 41_capture.md R96, the "if": the line sequence of R96, with every phase in range, completes the
capture and leaves its durations in the slots and the data-bit Highs in the sum. -/
def Obligations.WellTimedSequenceIsCaptured : Prop :=
  ∀ (s : State) (r : Nat) (pairs : List (Nat × Nat)) (rest : List Tick), s.cfg.Usable →
    s.st = 0x3#4 → s.cnt = 0 → s.hsum = 0 → r ≤ s.cfg.ceiling → pairs.length = 41 →
    (∀ p ∈ pairs, (1 ≤ p.1 ∧ p.1 ≤ s.cfg.ceiling) ∧ 1 ≤ p.2 ∧ p.2 ≤ s.cfg.ceiling) →
    s.stim = Stim.capture r pairs ++ rest →
    ∃ t, run (r + (pairs.map fun p => p.1 + p.2).sum + 1) s = .next t ∧
      t.st = 0x6#4 ∧ t.stim = rest ∧ t.done = false ∧
      (∀ i (h : i < pairs.length),
        t.slot[2 * i]? = some pairs[i].1 ∧ t.slot[2 * i + 1]? = some pairs[i].2) ∧
      t.hsum = (pairs.tail.map fun p => p.2).sum ∧
      t.thr = s.thr ∧ t.kidx = s.kidx ∧ t.fb = s.fb ∧ t.csum = s.csum ∧ t.outTag = s.outTag ∧
      t.outHum = s.outHum ∧ t.outTsign = s.outTsign ∧ t.outTmag = s.outTmag ∧
      t.outFrame = s.outFrame

/-- 41_capture.md R96, the "only if": every line sequence ends the capture within `83*C + 1` samples,
either in THRESH, and then it was the sequence of R96 that the slots hold, or in TIMEOUT. -/
def Obligations.EverySequenceIsCapturedOrTimesOut : Prop :=
  ∀ s : State, s.cfg.Usable → s.st = 0x3#4 → s.cnt = 0 → Stim.noReset s.stim = true →
    83 * s.cfg.ceiling + 1 ≤ s.stim.length →
    ∃ n t, n ≤ 83 * s.cfg.ceiling + 1 ∧ run n s = .next t ∧
      ((t.st = 0x6#4 ∧ ∃ (r : Nat) (pairs : List (Nat × Nat)), r ≤ s.cfg.ceiling ∧
          pairs.length = 41 ∧
          (∀ p ∈ pairs, (1 ≤ p.1 ∧ p.1 ≤ s.cfg.ceiling) ∧ 1 ≤ p.2 ∧ p.2 ≤ s.cfg.ceiling) ∧
          Stim.lines (s.stim.take n) = Stim.lines (Stim.capture r pairs) ∧
          ∀ i (h : i < pairs.length),
            t.slot[2 * i]? = some pairs[i].1 ∧ t.slot[2 * i + 1]? = some pairs[i].2) ∨
       (t.st = 0x0#4 ∧ t.outTag = .timeout ∧ t.done = true))

/-- 60_exceptions.md R132: TIMEOUT has exactly 83 causes, each can occur, all are reported under the one
code 2, and the output ports do not tell them apart. -/
def Obligations.TimeoutCausesAreUnreported : Prop :=
  TimeoutCause.all.length = 83 ∧ TimeoutCause.all.Nodup ∧ (∀ c, c ∈ TimeoutCause.all) ∧
  (∀ c, ∃ s : State, s.Inv ∧ s.inputs.rst = false ∧ s.timeoutCause = some c) ∧
  (∀ s t : State, s.Inv → s.inputs.rst = false → step s = .next t →
    ((t.done = true ∧ t.outTag = .timeout) ↔ s.timeoutCause.isSome = true) ∧
    ((t.ports.done = true ∧ t.ports.outTag = 0b10#2) ↔ s.timeoutCause.isSome = true)) ∧
  (∀ s t s' t' : State, s.Inv → s'.Inv → s.inputs.rst = false → s'.inputs.rst = false →
    s.timeoutCause.isSome = true → s'.timeoutCause.isSome = true →
    step s = .next t → step s' = .next t' → t.ports = t'.ports)

/-! ### Decoding -/

/-- 42_decode.md R106: THRESH. -/
def Obligations.ThreshLatchesTheSum : Prop :=
  ∀ s : State, exec .thresh s =
    .next { s with thr := s.hsum, kidx := 0#6, st := 0x7#4, done := false }

/-- 42_decode.md R107, R108: PACK on every data bit; only `fb[kidx div 8]` is written, and `csum` only
when a byte among 0 to 3 is completed. A data bit outside `0 .. 39` has no slot (20_memory.md R42,
notes/assumptions/5.md). -/
def Obligations.PackShiftsOneBit : Prop :=
  (∀ s : State, s.kidx.toNat ≤ 39 → ∃ (t : State) (d : Nat) (b nb : Byte),
    s.slot[2 * (s.kidx.toNat + 1) + 1]? = some d ∧ s.fb[s.kidx.toNat / 8]? = some b ∧
    nb = (b <<< 1) ||| (if s.thr ≤ 40 * d then 1#8 else 0#8) ∧
    exec .pack s = .next t ∧
    t = { s with fb := t.fb, kidx := t.kidx, done := false,
                 csum := if s.kidx.toNat % 8 = 7 ∧ s.kidx.toNat / 8 ≤ 3 then s.csum + nb else s.csum,
                 st := if s.kidx.toNat = 39 then 0x8#4 else s.st } ∧
    t.kidx.toNat = (if s.kidx.toNat = 39 then 39 else s.kidx.toNat + 1) ∧
    ∀ j (h : j < 5), t.fb[j] = if j = s.kidx.toNat / 8 then nb else s.fb[j]) ∧
  (∀ s : State, 39 < s.kidx.toNat →
    exec .pack s = .fault (.storageIndex (2 * (s.kidx.toNat + 1) + 1)))

/-- 42_decode.md R112: after THRESH and the 40 PACK steps each byte is the sum of its classified bits
times their weights, and `csum` is the sum of bytes 0 to 3 modulo 256. -/
def Obligations.PackedFrameAfterFortySteps : Prop :=
  ∀ (s : State) (ts rest : List Tick), s.cfg.Usable → s.st = 0x6#4 → s.csum = 0#8 →
    s.stim = ts ++ rest → ts.length = 41 → Stim.noReset ts = true →
    ∃ t, run 41 s = .next t ∧ t.st = 0x8#4 ∧ t.stim = rest ∧ t.thr = s.hsum ∧
      (∀ j (h : j < 5), t.fb[j].toNat = ∑ m ∈ Finset.range 8,
        (if s.hsum ≤ 40 * (s.slot[2 * (8 * j + m) + 3]?.getD 0) then 1 else 0) * 2 ^ (7 - m)) ∧
      t.csum.toNat =
        (t.fb[0].toNat + t.fb[1].toNat + t.fb[2].toNat + t.fb[3].toNat) % 256 ∧
      t.slot = s.slot ∧ t.done = false ∧ t.outTag = s.outTag ∧ t.outHum = s.outHum ∧
      t.outTsign = s.outTsign ∧ t.outTmag = s.outTmag ∧ t.outFrame = s.outFrame

/-- 42_decode.md R110: in a frame of uniform lengths, each bit decodes to its own value if some bit is
1, and every bit decodes to 1 if none is. -/
def Obligations.UniformFrameDecodes : Prop :=
  ∀ (slot : Vector Nat 82) (bit : Nat → Bool) (short long : Nat), short < long →
    (∀ k < 40, dataDuration slot k = if bit k then long else short) →
    ((∃ k < 40, bit k = true) →
      ∀ k < 40, classify (dataDuration slot k) (dataSum slot 40) = bit k) ∧
    ((∀ k < 40, bit k = false) →
      ∀ k < 40, classify (dataDuration slot k) (dataSum slot 40) = true)

/-- 42_decode.md R111: some data bit always decodes to 1, so a decode of a completed capture never gives
the all-zero frame; and 40 equal durations give the frame of all ones, which is a checksum mismatch. -/
def Obligations.AllZeroFrameNeverDecoded : Prop :=
  (∀ slot : Vector Nat 82, ∃ k < 40,
    classify (dataDuration slot k) (dataSum slot 40) = true) ∧
  (∀ s : State, s.CaptureRecord → s.DecodeRecord → s.st = 0x8#4 →
    s.fb ≠ Vector.replicate 5 0#8) ∧
  (∀ (s : State) (d : Nat), s.CaptureRecord → s.DecodeRecord → s.st = 0x8#4 →
    (∀ k < 40, dataDuration s.slot k = d) → s.fb = Vector.replicate 5 0xFF#8 ∧
    s.csum = 0xFC#8 ∧ exec .check s =
      .next { s with outTag := .checksumMismatch, done := true, st := 0x0#4 })

/-! ### Outcome -/

/-- 43_check_outcome.md R116, R117: CHECK ends the read, as READING with the fields of the frame when
the checksum holds, else as CHECKSUM_MISMATCH with the data outputs untouched. -/
def Obligations.CheckEndsTheRead : Prop :=
  (∀ s : State, s.csum = s.fb[4] → exec .check s = .next
    { s with
      outTag := .reading
      outHum := s.fb[0].setWidth 16 * 256#16 + s.fb[1].setWidth 16
      outTsign := s.fb[2].getLsbD 7
      outTmag := (s.fb[2] &&& 0x7F#8).setWidth 15 * 256#15 + s.fb[3].setWidth 15
      outFrame := s.fb[0] ++ s.fb[1] ++ s.fb[2] ++ s.fb[3] ++ s.fb[4]
      done := true
      st := 0x0#4 }) ∧
  (∀ s : State, s.csum ≠ s.fb[4] → exec .check s = .next
    { s with outTag := .checksumMismatch, done := true, st := 0x0#4 })

/-- 43_check_outcome.md R117, 30_encoding.md R69, 60_exceptions.md R131: what each outcome writes. That
TAG.NONE writes all six outcome registers is the model's reading (notes/assumptions/8.md). -/
def Obligations.OutcomeEncoderWrites : Prop :=
  ∀ s : State,
    exec .completeReading s = .next
      { s with
        outTag := .reading
        outHum := s.fb[0].setWidth 16 * 256#16 + s.fb[1].setWidth 16
        outTsign := s.fb[2].getLsbD 7
        outTmag := (s.fb[2] &&& 0x7F#8).setWidth 15 * 256#15 + s.fb[3].setWidth 15
        outFrame := s.fb[0] ++ s.fb[1] ++ s.fb[2] ++ s.fb[3] ++ s.fb[4]
        done := true
        st := 0x0#4 } ∧
    exec .completeTimeout s = .next { s with outTag := .timeout, done := true, st := 0x0#4 } ∧
    exec .completeMismatch s =
      .next { s with outTag := .checksumMismatch, done := true, st := 0x0#4 } ∧
    exec .tagNone s = .next
      { s with outTag := .none, outHum := 0#16, outTsign := false, outTmag := 0#15,
               outFrame := 0#40, done := false }

/-- 30_encoding.md R62, 20_memory.md R45, R46: the fields of `out_frame` are the other data outputs and
the checksum byte, and data bit `k` is `out_frame[39 - k]`, bit `7 - (k mod 8)` of byte `k div 8`. -/
def Obligations.FrameFieldsAgree : Prop :=
  ∀ s t : State, exec .completeReading s = .next t →
    t.outFrame.extractLsb' 24 16 = t.outHum ∧
    t.outFrame.getLsbD 23 = t.outTsign ∧
    t.outFrame.extractLsb' 8 15 = t.outTmag ∧
    t.outFrame.extractLsb' 0 8 = s.fb[4] ∧
    ∀ k < 40, t.outFrame.getLsbD (39 - k) =
      (s.fb[k / 8]?.getD 0#8).getLsbD (7 - k % 8)

/-- 43_check_outcome.md R119, R120, 30_encoding.md R63: the physical values of a READING and their
ranges, without a range check. -/
def Obligations.PhysicalValues : Prop :=
  ∀ s t : State, exec .completeReading s = .next t →
    t.humidity = ((s.fb[0].toNat * 256 + s.fb[1].toNat : ℕ) : ℚ) / 10 ∧
    t.temperature = (if 128 ≤ s.fb[2].toNat then -1 else 1) *
      ((s.fb[2].toNat % 128 * 256 + s.fb[3].toNat : ℕ) : ℚ) / 10 ∧
    (0 ≤ t.humidity ∧ t.humidity ≤ 65535 / 10) ∧
    (-(32767 / 10) ≤ t.temperature ∧ t.temperature ≤ 32767 / 10) ∧
    (t.outTsign = true ↔ 128 ≤ s.fb[2].toNat)

/-- 43_check_outcome.md R122: where the decoded bytes carry the sum of the payload the outcome is
READING, and with any single bit of the checksum byte changed it is CHECKSUM_MISMATCH. -/
def Obligations.ChecksumLaw : Prop :=
  ∀ s : State, s.cfg.Usable → s.inputs.rst = false → s.st = 0x8#4 →
    s.csum = s.fb[0] + s.fb[1] + s.fb[2] + s.fb[3] →
    (s.fb[4] = s.fb[0] + s.fb[1] + s.fb[2] + s.fb[3] →
      ∃ t, step s = .next t ∧ t.outTag = .reading) ∧
    (∀ n < 8, s.fb[4] = (s.fb[0] + s.fb[1] + s.fb[2] + s.fb[3]) ^^^ (1#8 <<< n) →
      ∃ t, step s = .next t ∧ t.outTag = .checksumMismatch)

/-- 10_state.md R31: `done` is 1 exactly after a COMPLETE step, that is a step without `rst` that takes
a busy engine to IDLE, and 0 after every other step. -/
def Obligations.DoneStrobesOnCompletion : Prop :=
  ∀ s t : State, step s = .next t →
    (t.done = true ↔ (s.inputs.rst = false ∧ s.st ≠ 0x0#4 ∧ t.st = 0x0#4))

/-- 20_memory.md R49 for the tag and the data outputs: they change only in a step that accepts START or
performs COMPLETE, or with `rst`. For `done` R31 is followed (notes/assumptions/10.md). -/
def Obligations.OutcomeChangesOnlyAtStartOrComplete : Prop :=
  ∀ s t : State, step s = .next t →
    (t.outTag ≠ s.outTag ∨ t.outHum ≠ s.outHum ∨ t.outTsign ≠ s.outTsign ∨
      t.outTmag ≠ s.outTmag ∨ t.outFrame ≠ s.outFrame) →
    s.inputs.rst = true ∨ (s.st = 0x0#4 ∧ s.inputs.start = true) ∨
      (s.st ≠ 0x0#4 ∧ t.st = 0x0#4)

/-- 60_exceptions.md R140, 40_handshake.md R81, 20_memory.md R53: an idle engine that gets no START and
no `rst` keeps its outcome, and every other register but `done`, for as long as it waits. -/
def Obligations.OutcomeStaysUntilTheNextStart : Prop :=
  ∀ (s : State) (ts rest : List Tick), s.cfg.Usable → s.st = 0x0#4 → s.stim = ts ++ rest →
    ts ≠ [] → (∀ i ∈ ts, i.rst = false ∧ i.start = false) →
    run ts.length s =
      .next { s with done := false, stim := rest, tick := s.tick + ts.length }

/-- 10_state.md R17 to R25: each working register is written only by the operations its rule names
(and by reset). -/
def Obligations.RegistersWrittenOnlyByTheirRules : Prop :=
  ∀ s t : State, step s = .next t → s.inputs.rst = false →
    (t.hold ≠ s.hold → s.op ∈ [Instr.idle, .wakeHigh, .startLow]) ∧
    (t.cnt ≠ s.cnt → s.op ∈ [Instr.idle, .startLow, .releaseWait, .capLow, .capHigh]) ∧
    (t.pidx ≠ s.pidx → s.op ∈ [Instr.idle, .releaseWait, .capHigh]) ∧
    (t.kidx ≠ s.kidx → s.op ∈ [Instr.idle, .thresh, .pack]) ∧
    (t.slot ≠ s.slot → s.op ∈ [Instr.idle, .capLow, .capHigh]) ∧
    (t.hsum ≠ s.hsum → s.op ∈ [Instr.idle, .capHigh]) ∧
    (t.thr ≠ s.thr → s.op ∈ [Instr.idle, .thresh]) ∧
    (t.fb ≠ s.fb → s.op ∈ [Instr.idle, .pack]) ∧
    (t.csum ≠ s.csum → s.op ∈ [Instr.idle, .pack]) ∧
    (s.op = .idle → s.inputs.start = false →
      t = { s with done := false, stim := s.stim.tail, tick := s.tick + 1 })

/-! ### Faults -/

/-- 10_state.md R37, 30_encoding.md R67: a reserved state code is a fault, and no step leads to one. -/
def Obligations.ReservedCodesFault : Prop :=
  (∀ s : State, s.cfg.Usable → s.inputs.rst = false → 9 ≤ s.st.toNat →
    step s = .fault (.reservedState s.st)) ∧
  (∀ s : State,
    exec .reserved9 s = .fault (.reservedState 0x9#4) ∧
    exec .reservedA s = .fault (.reservedState 0xA#4) ∧
    exec .reservedB s = .fault (.reservedState 0xB#4) ∧
    exec .reservedC s = .fault (.reservedState 0xC#4) ∧
    exec .reservedD s = .fault (.reservedState 0xD#4) ∧
    exec .reservedE s = .fault (.reservedState 0xE#4) ∧
    exec .reservedF s = .fault (.reservedState 0xF#4)) ∧
  (∀ s t : State, step s = .next t → t.st.toNat ≤ 8)

/-- 60_exceptions.md R135, 70_reset_and_hazards.md R155: in a state that meets the invariant every step,
on every input, gives a next state; outside it the only faults are a reserved code and an index outside
the storage. The second is the model's inference (notes/assumptions/5.md): 20_memory.md R42 derives that
no rule forms such an index and does not say what one would do. -/
def Obligations.GoodStatesNeverStop : Prop :=
  (∀ (s : State) (r : Fault), step s = .fault r →
    (9 ≤ s.st.toNat ∧ r = .reservedState s.st) ∨ ∃ n, 82 ≤ n ∧ r = .storageIndex n) ∧
  (∀ s : State, s.Inv → ∃ t, step s = .next t)

/-! ### Invariants -/

/-- The invariant behind 10_state.md R36: every step keeps it. -/
def Obligations.InvariantKeptByEveryStep : Prop :=
  ∀ s t : State, s.Inv → step s = .next t → t.Inv

/-- The invariants hold after reset, for every usable configuration and all inputs, and at
`State.reset`. -/
def Obligations.InvariantsHoldAtReset : Prop :=
  (∀ (p : Params) (stim : List Tick) (tick : Nat), p.Usable →
    (State.resetWith p stim tick).Inv ∧ (State.resetWith p stim tick).CaptureRecord ∧
    (State.resetWith p stim tick).DecodeRecord) ∧
  State.reset.Inv

/-- 10_state.md R36: its clauses hold in every reachable state, whatever the inputs. -/
def Obligations.RangesHoldInEveryReachableState : Prop :=
  ∀ (p : Params) (stim : List Tick) (tick n : Nat) (t : State), p.Usable →
    run n (State.resetWith p stim tick) = .next t → t.RangesHold

/-- 41_capture.md R96, R98: what the capture has recorded is kept true by every step; after a completed
capture every slot is in `1 .. C` and `hsum`, the sum of the 40 data-bit Highs, is in `40 .. 40*C`. -/
def Obligations.CaptureRecordKeptByEveryStep : Prop :=
  (∀ s t : State, s.Inv → s.CaptureRecord → step s = .next t → t.CaptureRecord) ∧
  (∀ s : State, s.Inv → s.CaptureRecord → s.st = 0x6#4 ∨ s.st = 0x7#4 ∨ s.st = 0x8#4 →
    (∀ n (h : n < 82), 1 ≤ s.slot[n] ∧ s.slot[n] ≤ s.cfg.ceiling) ∧
    s.hsum = dataSum s.slot 40 ∧ 40 ≤ s.hsum ∧ s.hsum ≤ 40 * s.cfg.ceiling)

/-- 42_decode.md R107, R112: what the decoder has packed is kept true by every step. -/
def Obligations.DecodeRecordKeptByEveryStep : Prop :=
  ∀ s t : State, s.Inv → s.DecodeRecord → step s = .next t → t.DecodeRecord

/-- 00_scope.md R8, 41_capture.md R97, 42_decode.md R109: in a good state every register fits in its
width, and so does `40*d`, which is `(d << 5) + (d << 3)`; at `C = 128000` the widths are 17 and 23. -/
def Obligations.WidthsSuffice : Prop :=
  (∀ s : State, s.Inv →
    s.cnt < 2 ^ wCnt s.cfg ∧ s.hold < 2 ^ wHold s.cfg ∧
    s.hsum < 2 ^ wSum s.cfg ∧ s.thr < 2 ^ wSum s.cfg ∧
    ∀ n (h : n < 82), s.slot[n] < 2 ^ wCnt s.cfg ∧ 40 * s.slot[n] < 2 ^ wSum s.cfg) ∧
  (∀ d : Nat, 40 * d = (d <<< 5) + (d <<< 3)) ∧
  (∀ p : Params, p.ceiling = 128000 → wCnt p = 17 ∧ wSum p = 23)

/-- 20_memory.md R52, R53, 30_encoding.md R58, R69, 70_reset_and_hazards.md R161: in every state the
ports are the registers, `busy` and the pad outputs, with the tag at its code; a good state shows NONE and
0 while `busy = 1`, and a completed read shows its outcome with `busy = 0`. -/
def Obligations.BusyShowsNoOutcome : Prop :=
  (∀ s : State,
    s.ports.padOe = s.padOe ∧ s.ports.padOut = s.padOut ∧ s.ports.busy = s.busy ∧
    s.ports.done = s.done ∧ s.ports.outHum = s.outHum ∧ s.ports.outTsign = s.outTsign ∧
    s.ports.outTmag = s.outTmag ∧ s.ports.outFrame = s.outFrame ∧
    (s.ports.outTag = 0b00#2 ↔ s.outTag = .none) ∧
    (s.ports.outTag = 0b01#2 ↔ s.outTag = .reading) ∧
    (s.ports.outTag = 0b10#2 ↔ s.outTag = .timeout) ∧
    (s.ports.outTag = 0b11#2 ↔ s.outTag = .checksumMismatch)) ∧
  (∀ s : State, s.Inv → s.busy = true →
    s.ports = { padOe := s.padOe, padOut := s.padOut, busy := true, done := false,
                outTag := 0b00#2, outHum := 0#16, outTsign := false, outTmag := 0#15,
                outFrame := 0#40 }) ∧
  (∀ s : State, s.Inv → s.done = true → s.ports.busy = false ∧ s.ports.outTag ≠ 0b00#2)

/-! ### Whole reads -/

/-- 43_check_outcome.md R118, 70_reset_and_hazards.md R163 (c): a read that starts ends, unless `rst`
intervenes, in exactly one COMPLETE within `WAKE_TICKS + START_TICKS + 83*C + 44` ticks, whatever the
line does, and until then it is busy and shows no outcome. The START may come right after an earlier
COMPLETE (40_handshake.md R82 (a), R86), and the outcome is that of the read it begins. -/
def Obligations.EveryReadEndsInOneOutcome : Prop :=
  ∀ (s : State) (i : Tick) (rest : List Tick), s.cfg.Usable → s.st = 0x0#4 →
    s.stim = i :: rest → i.start = true → i.rst = false → Stim.noReset rest = true →
    s.cfg.wakeTicks + s.cfg.startTicks + 83 * s.cfg.ceiling + 43 ≤ rest.length →
    ∃ n t, 0 < n ∧ n ≤ s.cfg.wakeTicks + s.cfg.startTicks + 83 * s.cfg.ceiling + 44 ∧
      run n s = .next t ∧ t.st = 0x0#4 ∧ t.done = true ∧ t.outTag ≠ .none ∧
      ∀ k, 0 < k → k < n →
        ∃ u, run k s = .next u ∧ u.busy = true ∧ u.done = false ∧ u.outTag = .none

/-- 70_reset_and_hazards.md R163 (a), 42_decode.md R110, 43_check_outcome.md R117, R122, 30_encoding.md
R63, R72: a well-timed frame of uniform lengths that carries a payload other than all zeros and its
checksum is read, from START to READING, with the payload in the outputs, in exactly
`WAKE_TICKS + START_TICKS + r + S + 44` ticks, `S` the sum of the slots. The line value of the START tick
is the model's choice (notes/assumptions/21.md) and is ignored (R82). -/
def Obligations.WellTimedFrameIsRead : Prop :=
  ∀ (s : State) (b0 b1 b2 b3 : Byte) (r al ah l short long : Nat)
    (drive tail rest : List Tick), s.cfg.Usable → s.st = 0x0#4 →
    r ≤ s.cfg.ceiling → (1 ≤ al ∧ al ≤ s.cfg.ceiling) → (1 ≤ ah ∧ ah ≤ s.cfg.ceiling) →
    (1 ≤ l ∧ l ≤ s.cfg.ceiling) → 1 ≤ short → short < long → long ≤ s.cfg.ceiling →
    ¬ (b0 = 0#8 ∧ b1 = 0#8 ∧ b2 = 0#8 ∧ b3 = 0#8) →
    drive.length = s.cfg.wakeTicks + s.cfg.startTicks → Stim.noReset drive = true →
    tail.length = 42 → Stim.noReset tail = true →
    s.stim = Stim.start ::
      (drive ++ Stim.frame b0 b1 b2 b3 (b0 + b1 + b2 + b3) r al ah l short long ++ tail ++ rest) →
    ∃ n t, run n s = .next t ∧ t.stim = rest ∧
      n = s.cfg.wakeTicks + s.cfg.startTicks + r + t.slot.toList.sum + 44 ∧
      t.st = 0x0#4 ∧ t.done = true ∧ t.outTag = .reading ∧
      t.outHum = b0 ++ b1 ∧ t.outTsign = b2.getLsbD 7 ∧
      t.outTmag.toNat = b2.toNat % 128 * 256 + b3.toNat ∧
      t.outFrame = b0 ++ b1 ++ b2 ++ b3 ++ (b0 + b1 + b2 + b3)
end

