-- ==== Sys2Proof/Laws/State.lean ====
section
/-!
SUPPORT. Beside State: what each named update leaves in each field, one lemma per field per update, so
that no proof unfolds a record update.
-/

namespace Sys2Proof.Machine

/-! ### the end of a step -/

@[simp] theorem State.advance_cfg (s : State) : s.advance.cfg = s.cfg := rfl
@[simp] theorem State.advance_st (s : State) : s.advance.st = s.st := rfl
@[simp] theorem State.advance_hold (s : State) : s.advance.hold = s.hold := rfl
@[simp] theorem State.advance_cnt (s : State) : s.advance.cnt = s.cnt := rfl
@[simp] theorem State.advance_pidx (s : State) : s.advance.pidx = s.pidx := rfl
@[simp] theorem State.advance_kidx (s : State) : s.advance.kidx = s.kidx := rfl
@[simp] theorem State.advance_slot (s : State) : s.advance.slot = s.slot := rfl
@[simp] theorem State.advance_hsum (s : State) : s.advance.hsum = s.hsum := rfl
@[simp] theorem State.advance_thr (s : State) : s.advance.thr = s.thr := rfl
@[simp] theorem State.advance_fb (s : State) : s.advance.fb = s.fb := rfl
@[simp] theorem State.advance_csum (s : State) : s.advance.csum = s.csum := rfl
@[simp] theorem State.advance_outTag (s : State) : s.advance.outTag = s.outTag := rfl
@[simp] theorem State.advance_outHum (s : State) : s.advance.outHum = s.outHum := rfl
@[simp] theorem State.advance_outTsign (s : State) : s.advance.outTsign = s.outTsign := rfl
@[simp] theorem State.advance_outTmag (s : State) : s.advance.outTmag = s.outTmag := rfl
@[simp] theorem State.advance_outFrame (s : State) : s.advance.outFrame = s.outFrame := rfl
@[simp] theorem State.advance_done (s : State) : s.advance.done = s.done := rfl
@[simp] theorem State.advance_stim (s : State) : s.advance.stim = s.stim.tail := rfl
@[simp] theorem State.advance_tick (s : State) : s.advance.tick = s.tick + 1 := rfl

/-! ### placing a tick -/

@[simp] theorem State.withTick_cfg (s : State) (i : Tick) : (s.withTick i).cfg = s.cfg := rfl
@[simp] theorem State.withTick_st (s : State) (i : Tick) : (s.withTick i).st = s.st := rfl
@[simp] theorem State.withTick_hold (s : State) (i : Tick) : (s.withTick i).hold = s.hold := rfl
@[simp] theorem State.withTick_cnt (s : State) (i : Tick) : (s.withTick i).cnt = s.cnt := rfl
@[simp] theorem State.withTick_pidx (s : State) (i : Tick) : (s.withTick i).pidx = s.pidx := rfl
@[simp] theorem State.withTick_kidx (s : State) (i : Tick) : (s.withTick i).kidx = s.kidx := rfl
@[simp] theorem State.withTick_slot (s : State) (i : Tick) : (s.withTick i).slot = s.slot := rfl
@[simp] theorem State.withTick_hsum (s : State) (i : Tick) : (s.withTick i).hsum = s.hsum := rfl
@[simp] theorem State.withTick_thr (s : State) (i : Tick) : (s.withTick i).thr = s.thr := rfl
@[simp] theorem State.withTick_fb (s : State) (i : Tick) : (s.withTick i).fb = s.fb := rfl
@[simp] theorem State.withTick_csum (s : State) (i : Tick) : (s.withTick i).csum = s.csum := rfl
@[simp] theorem State.withTick_outTag (s : State) (i : Tick) :
    (s.withTick i).outTag = s.outTag := rfl
@[simp] theorem State.withTick_outHum (s : State) (i : Tick) :
    (s.withTick i).outHum = s.outHum := rfl
@[simp] theorem State.withTick_outTsign (s : State) (i : Tick) :
    (s.withTick i).outTsign = s.outTsign := rfl
@[simp] theorem State.withTick_outTmag (s : State) (i : Tick) :
    (s.withTick i).outTmag = s.outTmag := rfl
@[simp] theorem State.withTick_outFrame (s : State) (i : Tick) :
    (s.withTick i).outFrame = s.outFrame := rfl
@[simp] theorem State.withTick_done (s : State) (i : Tick) : (s.withTick i).done = s.done := rfl
@[simp] theorem State.withTick_stim (s : State) (i : Tick) :
    (s.withTick i).stim = i :: s.stim.tail := rfl
@[simp] theorem State.withTick_tick (s : State) (i : Tick) : (s.withTick i).tick = s.tick := rfl

/-! ### reset (10_state.md R35) -/

@[simp] theorem resetRegs_cfg (s : State) : (resetRegs s).cfg = s.cfg := rfl
@[simp] theorem resetRegs_st (s : State) : (resetRegs s).st = St.idle := rfl
@[simp] theorem resetRegs_hold (s : State) : (resetRegs s).hold = 0 := rfl
@[simp] theorem resetRegs_cnt (s : State) : (resetRegs s).cnt = 0 := rfl
@[simp] theorem resetRegs_pidx (s : State) : (resetRegs s).pidx = 0#6 := rfl
@[simp] theorem resetRegs_kidx (s : State) : (resetRegs s).kidx = 0#6 := rfl
@[simp] theorem resetRegs_slot (s : State) : (resetRegs s).slot = Vector.replicate 82 0 := rfl
@[simp] theorem resetRegs_hsum (s : State) : (resetRegs s).hsum = 0 := rfl
@[simp] theorem resetRegs_thr (s : State) : (resetRegs s).thr = 0 := rfl
@[simp] theorem resetRegs_fb (s : State) : (resetRegs s).fb = Vector.replicate 5 0#8 := rfl
@[simp] theorem resetRegs_csum (s : State) : (resetRegs s).csum = 0#8 := rfl
@[simp] theorem resetRegs_outTag (s : State) : (resetRegs s).outTag = .none := rfl
@[simp] theorem resetRegs_outHum (s : State) : (resetRegs s).outHum = 0#16 := rfl
@[simp] theorem resetRegs_outTsign (s : State) : (resetRegs s).outTsign = false := rfl
@[simp] theorem resetRegs_outTmag (s : State) : (resetRegs s).outTmag = 0#15 := rfl
@[simp] theorem resetRegs_outFrame (s : State) : (resetRegs s).outFrame = 0#40 := rfl
@[simp] theorem resetRegs_done (s : State) : (resetRegs s).done = false := rfl
@[simp] theorem resetRegs_stim (s : State) : (resetRegs s).stim = s.stim := rfl
@[simp] theorem resetRegs_tick (s : State) : (resetRegs s).tick = s.tick := rfl

/-! ### clearing the outcome registers -/

@[simp] theorem clearOutcome_cfg (s : State) : (clearOutcome s).cfg = s.cfg := rfl
@[simp] theorem clearOutcome_st (s : State) : (clearOutcome s).st = s.st := rfl
@[simp] theorem clearOutcome_hold (s : State) : (clearOutcome s).hold = s.hold := rfl
@[simp] theorem clearOutcome_cnt (s : State) : (clearOutcome s).cnt = s.cnt := rfl
@[simp] theorem clearOutcome_pidx (s : State) : (clearOutcome s).pidx = s.pidx := rfl
@[simp] theorem clearOutcome_kidx (s : State) : (clearOutcome s).kidx = s.kidx := rfl
@[simp] theorem clearOutcome_slot (s : State) : (clearOutcome s).slot = s.slot := rfl
@[simp] theorem clearOutcome_hsum (s : State) : (clearOutcome s).hsum = s.hsum := rfl
@[simp] theorem clearOutcome_thr (s : State) : (clearOutcome s).thr = s.thr := rfl
@[simp] theorem clearOutcome_fb (s : State) : (clearOutcome s).fb = s.fb := rfl
@[simp] theorem clearOutcome_csum (s : State) : (clearOutcome s).csum = s.csum := rfl
@[simp] theorem clearOutcome_outTag (s : State) : (clearOutcome s).outTag = .none := rfl
@[simp] theorem clearOutcome_outHum (s : State) : (clearOutcome s).outHum = 0#16 := rfl
@[simp] theorem clearOutcome_outTsign (s : State) : (clearOutcome s).outTsign = false := rfl
@[simp] theorem clearOutcome_outTmag (s : State) : (clearOutcome s).outTmag = 0#15 := rfl
@[simp] theorem clearOutcome_outFrame (s : State) : (clearOutcome s).outFrame = 0#40 := rfl
@[simp] theorem clearOutcome_done (s : State) : (clearOutcome s).done = false := rfl
@[simp] theorem clearOutcome_stim (s : State) : (clearOutcome s).stim = s.stim := rfl
@[simp] theorem clearOutcome_tick (s : State) : (clearOutcome s).tick = s.tick := rfl

/-! ### COMPLETE (43_check_outcome.md R117) -/

@[simp] theorem complete_cfg (tag : OutTag) (s : State) : (complete tag s).cfg = s.cfg := rfl
@[simp] theorem complete_st (tag : OutTag) (s : State) : (complete tag s).st = St.idle := rfl
@[simp] theorem complete_hold (tag : OutTag) (s : State) : (complete tag s).hold = s.hold := rfl
@[simp] theorem complete_cnt (tag : OutTag) (s : State) : (complete tag s).cnt = s.cnt := rfl
@[simp] theorem complete_pidx (tag : OutTag) (s : State) : (complete tag s).pidx = s.pidx := rfl
@[simp] theorem complete_kidx (tag : OutTag) (s : State) : (complete tag s).kidx = s.kidx := rfl
@[simp] theorem complete_slot (tag : OutTag) (s : State) : (complete tag s).slot = s.slot := rfl
@[simp] theorem complete_hsum (tag : OutTag) (s : State) : (complete tag s).hsum = s.hsum := rfl
@[simp] theorem complete_thr (tag : OutTag) (s : State) : (complete tag s).thr = s.thr := rfl
@[simp] theorem complete_fb (tag : OutTag) (s : State) : (complete tag s).fb = s.fb := rfl
@[simp] theorem complete_csum (tag : OutTag) (s : State) : (complete tag s).csum = s.csum := rfl
@[simp] theorem complete_outTag (tag : OutTag) (s : State) : (complete tag s).outTag = tag := rfl
@[simp] theorem complete_outHum (tag : OutTag) (s : State) :
    (complete tag s).outHum = if tag = .reading then humField s.fb else s.outHum := rfl
@[simp] theorem complete_outTsign (tag : OutTag) (s : State) :
    (complete tag s).outTsign = if tag = .reading then tsignField s.fb else s.outTsign := rfl
@[simp] theorem complete_outTmag (tag : OutTag) (s : State) :
    (complete tag s).outTmag = if tag = .reading then tmagField s.fb else s.outTmag := rfl
@[simp] theorem complete_outFrame (tag : OutTag) (s : State) :
    (complete tag s).outFrame = if tag = .reading then frameField s.fb else s.outFrame := rfl
@[simp] theorem complete_done (tag : OutTag) (s : State) : (complete tag s).done = true := rfl
@[simp] theorem complete_stim (tag : OutTag) (s : State) : (complete tag s).stim = s.stim := rfl
@[simp] theorem complete_tick (tag : OutTag) (s : State) : (complete tag s).tick = s.tick := rfl

/-! ### IDLE without a command (40_handshake.md R81) -/

@[simp] theorem idleNoCommand_cfg (s : State) : (idleNoCommand s).cfg = s.cfg := rfl
@[simp] theorem idleNoCommand_st (s : State) : (idleNoCommand s).st = s.st := rfl
@[simp] theorem idleNoCommand_hold (s : State) : (idleNoCommand s).hold = s.hold := rfl
@[simp] theorem idleNoCommand_cnt (s : State) : (idleNoCommand s).cnt = s.cnt := rfl
@[simp] theorem idleNoCommand_pidx (s : State) : (idleNoCommand s).pidx = s.pidx := rfl
@[simp] theorem idleNoCommand_kidx (s : State) : (idleNoCommand s).kidx = s.kidx := rfl
@[simp] theorem idleNoCommand_slot (s : State) : (idleNoCommand s).slot = s.slot := rfl
@[simp] theorem idleNoCommand_hsum (s : State) : (idleNoCommand s).hsum = s.hsum := rfl
@[simp] theorem idleNoCommand_thr (s : State) : (idleNoCommand s).thr = s.thr := rfl
@[simp] theorem idleNoCommand_fb (s : State) : (idleNoCommand s).fb = s.fb := rfl
@[simp] theorem idleNoCommand_csum (s : State) : (idleNoCommand s).csum = s.csum := rfl
@[simp] theorem idleNoCommand_outTag (s : State) : (idleNoCommand s).outTag = s.outTag := rfl
@[simp] theorem idleNoCommand_outHum (s : State) : (idleNoCommand s).outHum = s.outHum := rfl
@[simp] theorem idleNoCommand_outTsign (s : State) : (idleNoCommand s).outTsign = s.outTsign := rfl
@[simp] theorem idleNoCommand_outTmag (s : State) : (idleNoCommand s).outTmag = s.outTmag := rfl
@[simp] theorem idleNoCommand_outFrame (s : State) : (idleNoCommand s).outFrame = s.outFrame := rfl
@[simp] theorem idleNoCommand_done (s : State) : (idleNoCommand s).done = false := rfl
@[simp] theorem idleNoCommand_stim (s : State) : (idleNoCommand s).stim = s.stim := rfl
@[simp] theorem idleNoCommand_tick (s : State) : (idleNoCommand s).tick = s.tick := rfl

/-! ### an accepted START (40_handshake.md R82) -/

@[simp] theorem acceptStart_cfg (s : State) : (acceptStart s).cfg = s.cfg := rfl
@[simp] theorem acceptStart_st (s : State) : (acceptStart s).st = St.wakeHigh := rfl
@[simp] theorem acceptStart_hold (s : State) : (acceptStart s).hold = 0 := rfl
@[simp] theorem acceptStart_cnt (s : State) : (acceptStart s).cnt = 0 := rfl
@[simp] theorem acceptStart_pidx (s : State) : (acceptStart s).pidx = 0#6 := rfl
@[simp] theorem acceptStart_kidx (s : State) : (acceptStart s).kidx = 0#6 := rfl
@[simp] theorem acceptStart_slot (s : State) : (acceptStart s).slot = Vector.replicate 82 0 := rfl
@[simp] theorem acceptStart_hsum (s : State) : (acceptStart s).hsum = 0 := rfl
@[simp] theorem acceptStart_thr (s : State) : (acceptStart s).thr = 0 := rfl
@[simp] theorem acceptStart_fb (s : State) : (acceptStart s).fb = Vector.replicate 5 0#8 := rfl
@[simp] theorem acceptStart_csum (s : State) : (acceptStart s).csum = 0#8 := rfl
@[simp] theorem acceptStart_outTag (s : State) : (acceptStart s).outTag = .none := rfl
@[simp] theorem acceptStart_outHum (s : State) : (acceptStart s).outHum = 0#16 := rfl
@[simp] theorem acceptStart_outTsign (s : State) : (acceptStart s).outTsign = false := rfl
@[simp] theorem acceptStart_outTmag (s : State) : (acceptStart s).outTmag = 0#15 := rfl
@[simp] theorem acceptStart_outFrame (s : State) : (acceptStart s).outFrame = 0#40 := rfl
@[simp] theorem acceptStart_done (s : State) : (acceptStart s).done = false := rfl
@[simp] theorem acceptStart_stim (s : State) : (acceptStart s).stim = s.stim := rfl
@[simp] theorem acceptStart_tick (s : State) : (acceptStart s).tick = s.tick := rfl

/-! ### a tick of a hold phase (40_handshake.md R83, R84) -/

@[simp] theorem holdCount_cfg (s : State) : (holdCount s).cfg = s.cfg := rfl
@[simp] theorem holdCount_st (s : State) : (holdCount s).st = s.st := rfl
@[simp] theorem holdCount_hold (s : State) : (holdCount s).hold = s.hold + 1 := rfl
@[simp] theorem holdCount_cnt (s : State) : (holdCount s).cnt = s.cnt := rfl
@[simp] theorem holdCount_pidx (s : State) : (holdCount s).pidx = s.pidx := rfl
@[simp] theorem holdCount_kidx (s : State) : (holdCount s).kidx = s.kidx := rfl
@[simp] theorem holdCount_slot (s : State) : (holdCount s).slot = s.slot := rfl
@[simp] theorem holdCount_hsum (s : State) : (holdCount s).hsum = s.hsum := rfl
@[simp] theorem holdCount_thr (s : State) : (holdCount s).thr = s.thr := rfl
@[simp] theorem holdCount_fb (s : State) : (holdCount s).fb = s.fb := rfl
@[simp] theorem holdCount_csum (s : State) : (holdCount s).csum = s.csum := rfl
@[simp] theorem holdCount_outTag (s : State) : (holdCount s).outTag = s.outTag := rfl
@[simp] theorem holdCount_outHum (s : State) : (holdCount s).outHum = s.outHum := rfl
@[simp] theorem holdCount_outTsign (s : State) : (holdCount s).outTsign = s.outTsign := rfl
@[simp] theorem holdCount_outTmag (s : State) : (holdCount s).outTmag = s.outTmag := rfl
@[simp] theorem holdCount_outFrame (s : State) : (holdCount s).outFrame = s.outFrame := rfl
@[simp] theorem holdCount_done (s : State) : (holdCount s).done = false := rfl
@[simp] theorem holdCount_stim (s : State) : (holdCount s).stim = s.stim := rfl
@[simp] theorem holdCount_tick (s : State) : (holdCount s).tick = s.tick := rfl

/-! ### the end of WAKE_HIGH (40_handshake.md R83) -/

@[simp] theorem wakeEnd_cfg (s : State) : (wakeEnd s).cfg = s.cfg := rfl
@[simp] theorem wakeEnd_st (s : State) : (wakeEnd s).st = St.startLow := rfl
@[simp] theorem wakeEnd_hold (s : State) : (wakeEnd s).hold = 0 := rfl
@[simp] theorem wakeEnd_cnt (s : State) : (wakeEnd s).cnt = s.cnt := rfl
@[simp] theorem wakeEnd_pidx (s : State) : (wakeEnd s).pidx = s.pidx := rfl
@[simp] theorem wakeEnd_kidx (s : State) : (wakeEnd s).kidx = s.kidx := rfl
@[simp] theorem wakeEnd_slot (s : State) : (wakeEnd s).slot = s.slot := rfl
@[simp] theorem wakeEnd_hsum (s : State) : (wakeEnd s).hsum = s.hsum := rfl
@[simp] theorem wakeEnd_thr (s : State) : (wakeEnd s).thr = s.thr := rfl
@[simp] theorem wakeEnd_fb (s : State) : (wakeEnd s).fb = s.fb := rfl
@[simp] theorem wakeEnd_csum (s : State) : (wakeEnd s).csum = s.csum := rfl
@[simp] theorem wakeEnd_outTag (s : State) : (wakeEnd s).outTag = s.outTag := rfl
@[simp] theorem wakeEnd_outHum (s : State) : (wakeEnd s).outHum = s.outHum := rfl
@[simp] theorem wakeEnd_outTsign (s : State) : (wakeEnd s).outTsign = s.outTsign := rfl
@[simp] theorem wakeEnd_outTmag (s : State) : (wakeEnd s).outTmag = s.outTmag := rfl
@[simp] theorem wakeEnd_outFrame (s : State) : (wakeEnd s).outFrame = s.outFrame := rfl
@[simp] theorem wakeEnd_done (s : State) : (wakeEnd s).done = false := rfl
@[simp] theorem wakeEnd_stim (s : State) : (wakeEnd s).stim = s.stim := rfl
@[simp] theorem wakeEnd_tick (s : State) : (wakeEnd s).tick = s.tick := rfl

/-! ### the end of START_LOW (40_handshake.md R84) -/

@[simp] theorem startPulseEnd_cfg (s : State) : (startPulseEnd s).cfg = s.cfg := rfl
@[simp] theorem startPulseEnd_st (s : State) : (startPulseEnd s).st = St.releaseWait := rfl
@[simp] theorem startPulseEnd_hold (s : State) : (startPulseEnd s).hold = 0 := rfl
@[simp] theorem startPulseEnd_cnt (s : State) : (startPulseEnd s).cnt = 0 := rfl
@[simp] theorem startPulseEnd_pidx (s : State) : (startPulseEnd s).pidx = s.pidx := rfl
@[simp] theorem startPulseEnd_kidx (s : State) : (startPulseEnd s).kidx = s.kidx := rfl
@[simp] theorem startPulseEnd_slot (s : State) : (startPulseEnd s).slot = s.slot := rfl
@[simp] theorem startPulseEnd_hsum (s : State) : (startPulseEnd s).hsum = s.hsum := rfl
@[simp] theorem startPulseEnd_thr (s : State) : (startPulseEnd s).thr = s.thr := rfl
@[simp] theorem startPulseEnd_fb (s : State) : (startPulseEnd s).fb = s.fb := rfl
@[simp] theorem startPulseEnd_csum (s : State) : (startPulseEnd s).csum = s.csum := rfl
@[simp] theorem startPulseEnd_outTag (s : State) : (startPulseEnd s).outTag = s.outTag := rfl
@[simp] theorem startPulseEnd_outHum (s : State) : (startPulseEnd s).outHum = s.outHum := rfl
@[simp] theorem startPulseEnd_outTsign (s : State) : (startPulseEnd s).outTsign = s.outTsign := rfl
@[simp] theorem startPulseEnd_outTmag (s : State) : (startPulseEnd s).outTmag = s.outTmag := rfl
@[simp] theorem startPulseEnd_outFrame (s : State) : (startPulseEnd s).outFrame = s.outFrame := rfl
@[simp] theorem startPulseEnd_done (s : State) : (startPulseEnd s).done = false := rfl
@[simp] theorem startPulseEnd_stim (s : State) : (startPulseEnd s).stim = s.stim := rfl
@[simp] theorem startPulseEnd_tick (s : State) : (startPulseEnd s).tick = s.tick := rfl

/-! ### a sample of a phase (41_capture.md R92, R94, R95) -/

@[simp] theorem countSample_cfg (s : State) : (countSample s).cfg = s.cfg := rfl
@[simp] theorem countSample_st (s : State) : (countSample s).st = s.st := rfl
@[simp] theorem countSample_hold (s : State) : (countSample s).hold = s.hold := rfl
@[simp] theorem countSample_cnt (s : State) : (countSample s).cnt = s.cnt + 1 := rfl
@[simp] theorem countSample_pidx (s : State) : (countSample s).pidx = s.pidx := rfl
@[simp] theorem countSample_kidx (s : State) : (countSample s).kidx = s.kidx := rfl
@[simp] theorem countSample_slot (s : State) : (countSample s).slot = s.slot := rfl
@[simp] theorem countSample_hsum (s : State) : (countSample s).hsum = s.hsum := rfl
@[simp] theorem countSample_thr (s : State) : (countSample s).thr = s.thr := rfl
@[simp] theorem countSample_fb (s : State) : (countSample s).fb = s.fb := rfl
@[simp] theorem countSample_csum (s : State) : (countSample s).csum = s.csum := rfl
@[simp] theorem countSample_outTag (s : State) : (countSample s).outTag = s.outTag := rfl
@[simp] theorem countSample_outHum (s : State) : (countSample s).outHum = s.outHum := rfl
@[simp] theorem countSample_outTsign (s : State) : (countSample s).outTsign = s.outTsign := rfl
@[simp] theorem countSample_outTmag (s : State) : (countSample s).outTmag = s.outTmag := rfl
@[simp] theorem countSample_outFrame (s : State) : (countSample s).outFrame = s.outFrame := rfl
@[simp] theorem countSample_done (s : State) : (countSample s).done = false := rfl
@[simp] theorem countSample_stim (s : State) : (countSample s).stim = s.stim := rfl
@[simp] theorem countSample_tick (s : State) : (countSample s).tick = s.tick := rfl

/-! ### a slot write (20_memory.md R42) -/

@[simp] theorem storeSlot_cfg (n v : Nat) (s : State) : (storeSlot n v s).cfg = s.cfg := rfl
@[simp] theorem storeSlot_st (n v : Nat) (s : State) : (storeSlot n v s).st = s.st := rfl
@[simp] theorem storeSlot_hold (n v : Nat) (s : State) : (storeSlot n v s).hold = s.hold := rfl
@[simp] theorem storeSlot_cnt (n v : Nat) (s : State) : (storeSlot n v s).cnt = s.cnt := rfl
@[simp] theorem storeSlot_pidx (n v : Nat) (s : State) : (storeSlot n v s).pidx = s.pidx := rfl
@[simp] theorem storeSlot_kidx (n v : Nat) (s : State) : (storeSlot n v s).kidx = s.kidx := rfl
@[simp] theorem storeSlot_slot (n v : Nat) (s : State) :
    (storeSlot n v s).slot = s.slot.setIfInBounds n v := rfl
@[simp] theorem storeSlot_hsum (n v : Nat) (s : State) : (storeSlot n v s).hsum = s.hsum := rfl
@[simp] theorem storeSlot_thr (n v : Nat) (s : State) : (storeSlot n v s).thr = s.thr := rfl
@[simp] theorem storeSlot_fb (n v : Nat) (s : State) : (storeSlot n v s).fb = s.fb := rfl
@[simp] theorem storeSlot_csum (n v : Nat) (s : State) : (storeSlot n v s).csum = s.csum := rfl
@[simp] theorem storeSlot_outTag (n v : Nat) (s : State) :
    (storeSlot n v s).outTag = s.outTag := rfl
@[simp] theorem storeSlot_outHum (n v : Nat) (s : State) :
    (storeSlot n v s).outHum = s.outHum := rfl
@[simp] theorem storeSlot_outTsign (n v : Nat) (s : State) :
    (storeSlot n v s).outTsign = s.outTsign := rfl
@[simp] theorem storeSlot_outTmag (n v : Nat) (s : State) :
    (storeSlot n v s).outTmag = s.outTmag := rfl
@[simp] theorem storeSlot_outFrame (n v : Nat) (s : State) :
    (storeSlot n v s).outFrame = s.outFrame := rfl
@[simp] theorem storeSlot_done (n v : Nat) (s : State) : (storeSlot n v s).done = s.done := rfl
@[simp] theorem storeSlot_stim (n v : Nat) (s : State) : (storeSlot n v s).stim = s.stim := rfl
@[simp] theorem storeSlot_tick (n v : Nat) (s : State) : (storeSlot n v s).tick = s.tick := rfl

/-! ### the end of the release wait (41_capture.md R92) -/

@[simp] theorem releaseEnd_cfg (s : State) : (releaseEnd s).cfg = s.cfg := rfl
@[simp] theorem releaseEnd_st (s : State) : (releaseEnd s).st = St.capLow := rfl
@[simp] theorem releaseEnd_hold (s : State) : (releaseEnd s).hold = s.hold := rfl
@[simp] theorem releaseEnd_cnt (s : State) : (releaseEnd s).cnt = 1 := rfl
@[simp] theorem releaseEnd_pidx (s : State) : (releaseEnd s).pidx = 0#6 := rfl
@[simp] theorem releaseEnd_kidx (s : State) : (releaseEnd s).kidx = s.kidx := rfl
@[simp] theorem releaseEnd_slot (s : State) : (releaseEnd s).slot = s.slot := rfl
@[simp] theorem releaseEnd_hsum (s : State) : (releaseEnd s).hsum = s.hsum := rfl
@[simp] theorem releaseEnd_thr (s : State) : (releaseEnd s).thr = s.thr := rfl
@[simp] theorem releaseEnd_fb (s : State) : (releaseEnd s).fb = s.fb := rfl
@[simp] theorem releaseEnd_csum (s : State) : (releaseEnd s).csum = s.csum := rfl
@[simp] theorem releaseEnd_outTag (s : State) : (releaseEnd s).outTag = s.outTag := rfl
@[simp] theorem releaseEnd_outHum (s : State) : (releaseEnd s).outHum = s.outHum := rfl
@[simp] theorem releaseEnd_outTsign (s : State) : (releaseEnd s).outTsign = s.outTsign := rfl
@[simp] theorem releaseEnd_outTmag (s : State) : (releaseEnd s).outTmag = s.outTmag := rfl
@[simp] theorem releaseEnd_outFrame (s : State) : (releaseEnd s).outFrame = s.outFrame := rfl
@[simp] theorem releaseEnd_done (s : State) : (releaseEnd s).done = false := rfl
@[simp] theorem releaseEnd_stim (s : State) : (releaseEnd s).stim = s.stim := rfl
@[simp] theorem releaseEnd_tick (s : State) : (releaseEnd s).tick = s.tick := rfl

/-! ### the end of a Low phase (41_capture.md R94) -/

@[simp] theorem lowPhaseEnd_cfg (s : State) : (lowPhaseEnd s).cfg = s.cfg := rfl
@[simp] theorem lowPhaseEnd_st (s : State) : (lowPhaseEnd s).st = St.capHigh := rfl
@[simp] theorem lowPhaseEnd_hold (s : State) : (lowPhaseEnd s).hold = s.hold := rfl
@[simp] theorem lowPhaseEnd_cnt (s : State) : (lowPhaseEnd s).cnt = 1 := rfl
@[simp] theorem lowPhaseEnd_pidx (s : State) : (lowPhaseEnd s).pidx = s.pidx := rfl
@[simp] theorem lowPhaseEnd_kidx (s : State) : (lowPhaseEnd s).kidx = s.kidx := rfl
@[simp] theorem lowPhaseEnd_slot (s : State) : (lowPhaseEnd s).slot = s.slot := rfl
@[simp] theorem lowPhaseEnd_hsum (s : State) : (lowPhaseEnd s).hsum = s.hsum := rfl
@[simp] theorem lowPhaseEnd_thr (s : State) : (lowPhaseEnd s).thr = s.thr := rfl
@[simp] theorem lowPhaseEnd_fb (s : State) : (lowPhaseEnd s).fb = s.fb := rfl
@[simp] theorem lowPhaseEnd_csum (s : State) : (lowPhaseEnd s).csum = s.csum := rfl
@[simp] theorem lowPhaseEnd_outTag (s : State) : (lowPhaseEnd s).outTag = s.outTag := rfl
@[simp] theorem lowPhaseEnd_outHum (s : State) : (lowPhaseEnd s).outHum = s.outHum := rfl
@[simp] theorem lowPhaseEnd_outTsign (s : State) : (lowPhaseEnd s).outTsign = s.outTsign := rfl
@[simp] theorem lowPhaseEnd_outTmag (s : State) : (lowPhaseEnd s).outTmag = s.outTmag := rfl
@[simp] theorem lowPhaseEnd_outFrame (s : State) : (lowPhaseEnd s).outFrame = s.outFrame := rfl
@[simp] theorem lowPhaseEnd_done (s : State) : (lowPhaseEnd s).done = false := rfl
@[simp] theorem lowPhaseEnd_stim (s : State) : (lowPhaseEnd s).stim = s.stim := rfl
@[simp] theorem lowPhaseEnd_tick (s : State) : (lowPhaseEnd s).tick = s.tick := rfl

/-! ### the end of a High phase (41_capture.md R95) -/

@[simp] theorem highPhaseEnd_cfg (s : State) : (highPhaseEnd s).cfg = s.cfg := rfl
@[simp] theorem highPhaseEnd_st (s : State) :
    (highPhaseEnd s).st = if s.pidx = 40#6 then St.thresh else St.capLow := rfl
@[simp] theorem highPhaseEnd_hold (s : State) : (highPhaseEnd s).hold = s.hold := rfl
@[simp] theorem highPhaseEnd_cnt (s : State) :
    (highPhaseEnd s).cnt = if s.pidx = 40#6 then s.cnt else 1 := rfl
@[simp] theorem highPhaseEnd_pidx (s : State) :
    (highPhaseEnd s).pidx = if s.pidx = 40#6 then s.pidx else s.pidx + 1#6 := rfl
@[simp] theorem highPhaseEnd_kidx (s : State) : (highPhaseEnd s).kidx = s.kidx := rfl
@[simp] theorem highPhaseEnd_slot (s : State) : (highPhaseEnd s).slot = s.slot := rfl
@[simp] theorem highPhaseEnd_hsum (s : State) :
    (highPhaseEnd s).hsum = if 1 ≤ s.pidx.toNat then s.hsum + s.cnt else s.hsum := rfl
@[simp] theorem highPhaseEnd_thr (s : State) : (highPhaseEnd s).thr = s.thr := rfl
@[simp] theorem highPhaseEnd_fb (s : State) : (highPhaseEnd s).fb = s.fb := rfl
@[simp] theorem highPhaseEnd_csum (s : State) : (highPhaseEnd s).csum = s.csum := rfl
@[simp] theorem highPhaseEnd_outTag (s : State) : (highPhaseEnd s).outTag = s.outTag := rfl
@[simp] theorem highPhaseEnd_outHum (s : State) : (highPhaseEnd s).outHum = s.outHum := rfl
@[simp] theorem highPhaseEnd_outTsign (s : State) : (highPhaseEnd s).outTsign = s.outTsign := rfl
@[simp] theorem highPhaseEnd_outTmag (s : State) : (highPhaseEnd s).outTmag = s.outTmag := rfl
@[simp] theorem highPhaseEnd_outFrame (s : State) : (highPhaseEnd s).outFrame = s.outFrame := rfl
@[simp] theorem highPhaseEnd_done (s : State) : (highPhaseEnd s).done = false := rfl
@[simp] theorem highPhaseEnd_stim (s : State) : (highPhaseEnd s).stim = s.stim := rfl
@[simp] theorem highPhaseEnd_tick (s : State) : (highPhaseEnd s).tick = s.tick := rfl

/-! ### THRESH (42_decode.md R106) -/

@[simp] theorem latchThreshold_cfg (s : State) : (latchThreshold s).cfg = s.cfg := rfl
@[simp] theorem latchThreshold_st (s : State) : (latchThreshold s).st = St.pack := rfl
@[simp] theorem latchThreshold_hold (s : State) : (latchThreshold s).hold = s.hold := rfl
@[simp] theorem latchThreshold_cnt (s : State) : (latchThreshold s).cnt = s.cnt := rfl
@[simp] theorem latchThreshold_pidx (s : State) : (latchThreshold s).pidx = s.pidx := rfl
@[simp] theorem latchThreshold_kidx (s : State) : (latchThreshold s).kidx = 0#6 := rfl
@[simp] theorem latchThreshold_slot (s : State) : (latchThreshold s).slot = s.slot := rfl
@[simp] theorem latchThreshold_hsum (s : State) : (latchThreshold s).hsum = s.hsum := rfl
@[simp] theorem latchThreshold_thr (s : State) : (latchThreshold s).thr = s.hsum := rfl
@[simp] theorem latchThreshold_fb (s : State) : (latchThreshold s).fb = s.fb := rfl
@[simp] theorem latchThreshold_csum (s : State) : (latchThreshold s).csum = s.csum := rfl
@[simp] theorem latchThreshold_outTag (s : State) : (latchThreshold s).outTag = s.outTag := rfl
@[simp] theorem latchThreshold_outHum (s : State) : (latchThreshold s).outHum = s.outHum := rfl
@[simp] theorem latchThreshold_outTsign (s : State) :
    (latchThreshold s).outTsign = s.outTsign := rfl
@[simp] theorem latchThreshold_outTmag (s : State) : (latchThreshold s).outTmag = s.outTmag := rfl
@[simp] theorem latchThreshold_outFrame (s : State) :
    (latchThreshold s).outFrame = s.outFrame := rfl
@[simp] theorem latchThreshold_done (s : State) : (latchThreshold s).done = false := rfl
@[simp] theorem latchThreshold_stim (s : State) : (latchThreshold s).stim = s.stim := rfl
@[simp] theorem latchThreshold_tick (s : State) : (latchThreshold s).tick = s.tick := rfl

/-! ### packing a data bit (42_decode.md R107) -/

@[simp] theorem packBit_cfg (d : Nat) (b : Byte) (s : State) : (packBit d b s).cfg = s.cfg := rfl
@[simp] theorem packBit_st (d : Nat) (b : Byte) (s : State) :
    (packBit d b s).st = if s.kidx = 39#6 then St.check else s.st := rfl
@[simp] theorem packBit_hold (d : Nat) (b : Byte) (s : State) : (packBit d b s).hold = s.hold := rfl
@[simp] theorem packBit_cnt (d : Nat) (b : Byte) (s : State) : (packBit d b s).cnt = s.cnt := rfl
@[simp] theorem packBit_pidx (d : Nat) (b : Byte) (s : State) : (packBit d b s).pidx = s.pidx := rfl
@[simp] theorem packBit_kidx (d : Nat) (b : Byte) (s : State) :
    (packBit d b s).kidx = if s.kidx = 39#6 then s.kidx else s.kidx + 1#6 := rfl
@[simp] theorem packBit_slot (d : Nat) (b : Byte) (s : State) : (packBit d b s).slot = s.slot := rfl
@[simp] theorem packBit_hsum (d : Nat) (b : Byte) (s : State) : (packBit d b s).hsum = s.hsum := rfl
@[simp] theorem packBit_thr (d : Nat) (b : Byte) (s : State) : (packBit d b s).thr = s.thr := rfl
@[simp] theorem packBit_fb (d : Nat) (b : Byte) (s : State) :
    (packBit d b s).fb = s.fb.setIfInBounds (byteIndex s.kidx) (shiftIn b (classify d s.thr)) := rfl
@[simp] theorem packBit_csum (d : Nat) (b : Byte) (s : State) :
    (packBit d b s).csum =
      if s.kidx.toNat % 8 = 7 ∧ byteIndex s.kidx ≤ 3
        then s.csum + shiftIn b (classify d s.thr) else s.csum := rfl
@[simp] theorem packBit_outTag (d : Nat) (b : Byte) (s : State) :
    (packBit d b s).outTag = s.outTag := rfl
@[simp] theorem packBit_outHum (d : Nat) (b : Byte) (s : State) :
    (packBit d b s).outHum = s.outHum := rfl
@[simp] theorem packBit_outTsign (d : Nat) (b : Byte) (s : State) :
    (packBit d b s).outTsign = s.outTsign := rfl
@[simp] theorem packBit_outTmag (d : Nat) (b : Byte) (s : State) :
    (packBit d b s).outTmag = s.outTmag := rfl
@[simp] theorem packBit_outFrame (d : Nat) (b : Byte) (s : State) :
    (packBit d b s).outFrame = s.outFrame := rfl
@[simp] theorem packBit_done (d : Nat) (b : Byte) (s : State) : (packBit d b s).done = false := rfl
@[simp] theorem packBit_stim (d : Nat) (b : Byte) (s : State) : (packBit d b s).stim = s.stim := rfl
@[simp] theorem packBit_tick (d : Nat) (b : Byte) (s : State) : (packBit d b s).tick = s.tick := rfl

end Sys2Proof.Machine
end

