-- ==== Sys2Proof/Laws/Ops.lean ====
section
/-!
SUPPORT. What each shared operation can do, one lemma each, to be cited instead of unfolding it.
-/

namespace Sys2Proof.Machine

/-! ### Inputs and the step -/

/-- A tick the environment has fixed is the one the step samples. -/
theorem inputs_of_cons {s : State} {i : Tick} {rest : List Tick} (h : s.stim = i :: rest) :
    s.inputs = i := by simp [State.inputs, h]

@[simp] theorem withTick_inputs (s : State) (i : Tick) : (s.withTick i).inputs = i := rfl

/-- `onNext` answers a next state exactly when the instruction does. -/
theorem onNext_eq_next {o : Host.Outcome State Fault Refusal} {f : State → State} {t : State} :
    onNext o f = .next t ↔ ∃ u, o = .next u ∧ t = f u := by
  cases o <;> simp [onNext, eq_comm]

theorem onNext_eq_fault {o : Host.Outcome State Fault Refusal} {f : State → State} {r : Fault} :
    onNext o f = .fault r ↔ o = .fault r := by
  cases o <;> simp [onNext]

theorem configRefusal_eq_none {p : Params} : configRefusal p = none ↔ p.Usable := by
  unfold configRefusal
  split_ifs with h h'
  · exact iff_of_true rfl ⟨h', h⟩
  · exact iff_of_false (by simp) fun hu => h' hu.1
  · exact iff_of_false (by simp) fun hu => h hu.2

/-- In a usable configuration a step is the instruction, then the tick is used up. -/
theorem step_eq {s : State} (h : s.cfg.Usable) : step s = onNext (exec s.op s) State.advance := by
  simp [step, configRefusal_eq_none.mpr h]

/-- Everything behind a next state: a usable configuration, and a next state of the instruction. -/
theorem step_eq_next {s t : State} :
    step s = .next t ↔ s.cfg.Usable ∧ ∃ u, exec s.op s = .next u ∧ t = u.advance := by
  constructor
  · intro h
    by_cases hc : s.cfg.Usable
    · exact ⟨hc, onNext_eq_next.mp (step_eq hc ▸ h)⟩
    · rw [step] at h
      split at h
      · cases h
      · exact absurd (configRefusal_eq_none.mp ‹_›) hc
  · rintro ⟨hc, u, hu, rfl⟩
    simp [step_eq hc, hu, onNext]

/-- The instruction of a step with `rst = 1`. -/
theorem op_of_rst {s : State} (h : s.inputs.rst = true) : s.op = .rst := by simp [State.op, h]

/-- The instruction of a step with `rst = 0`. -/
theorem op_of_not_rst {s : State} (h : s.inputs.rst = false) : s.op = decodeState s.st := by
  simp [State.op, h]

/-- A state code is one of the nine legal ones or reserved. -/
theorem stCode_cases (c : StCode) :
    c = St.idle ∨ c = St.wakeHigh ∨ c = St.startLow ∨ c = St.releaseWait ∨ c = St.capLow ∨
      c = St.capHigh ∨ c = St.thresh ∨ c = St.pack ∨ c = St.check ∨ 9 ≤ c.toNat := by
  revert c; decide

/-- A reserved code decodes to an instruction whose meaning is the fault of that code. -/
theorem exec_reserved {c : StCode} (h : 9 ≤ c.toNat) (s : State) :
    exec (decodeState c) s = .fault (.reservedState c) := by
  have : ∀ c : StCode, 9 ≤ c.toNat → c = 0x9#4 ∨ c = 0xA#4 ∨ c = 0xB#4 ∨ c = 0xC#4 ∨ c = 0xD#4 ∨
      c = 0xE#4 ∨ c = 0xF#4 := by decide
  rcases this c h with rfl | rfl | rfl | rfl | rfl | rfl | rfl <;> rfl

/-! ### Operations inside an instruction -/

/-- A hold tick either counts or leaves the phase. -/
theorem holdTick_cases (len : Nat) (f : State → State) (s : State) :
    (len ≤ s.hold + 1 ∧ holdTick len f s = f s) ∨
      (s.hold + 1 < len ∧ holdTick len f s = holdCount s) := by
  rcases Nat.lt_or_ge (s.hold + 1) len with h | h
  · exact .inr ⟨h, by simp [holdTick, Nat.not_le.mpr h]⟩
  · exact .inl ⟨h, by simp [holdTick, h]⟩

/-- A sample at the level waited out either times out or counts. -/
theorem sameLevelSample_cases (s : State) :
    (s.cnt = s.cfg.ceiling ∧ sameLevelSample s = complete .timeout s) ∨
      (s.cnt ≠ s.cfg.ceiling ∧ sameLevelSample s = countSample s) := by
  by_cases h : s.cnt = s.cfg.ceiling
  · exact .inl ⟨h, by simp [sameLevelSample, h]⟩
  · exact .inr ⟨h, by simp [sameLevelSample, h]⟩

/-- A slot write inside the index space stores and goes on. -/
theorem slotWrite_of_lt {n v : Nat} {s : State} {f : State → State} (h : n < 82) :
    slotWrite n v s f = .next (f (storeSlot n v s)) := by
  simp [slotWrite, h]

/-- A slot write outside the index space faults. -/
theorem slotWrite_of_ge {n v : Nat} {s : State} {f : State → State} (h : 82 ≤ n) :
    slotWrite n v s f = .fault (.storageIndex n) := by
  simp [slotWrite, Nat.not_lt.mpr h]

/-- The four tags have four codes (30_encoding.md R69). -/
@[simp] theorem outTag_code_inj (a b : OutTag) : a.code = b.code ↔ a = b := by
  cases a <;> cases b <;> decide

/-- A read after a slot write: the value written at its index, the old value elsewhere. -/
theorem slot_set_getElem (v : Vector Nat 82) (n x m : Nat) (h : m < 82) :
    (v.setIfInBounds n x)[m] = if m = n then x else v[m] := by
  simp [Vector.getElem_setIfInBounds, eq_comm]

/-- A read after a frame-byte write: the value written at its index, the old value elsewhere. -/
theorem fb_set_getElem (v : Vector Byte 5) (n : Nat) (x : Byte) (m : Nat) (h : m < 5) :
    (v.setIfInBounds n x)[m] = if m = n then x else v[m] := by
  simp [Vector.getElem_setIfInBounds, eq_comm]

/-- PACK finds both operands for every data bit of a frame. -/
theorem packOperands_of_le {s : State} (h : s.kidx.toNat ≤ 39) :
    packOperands s = some (s.slot[dataSlot s.kidx]'(by unfold dataSlot; omega),
      s.fb[byteIndex s.kidx]'(by unfold byteIndex; omega)) := by
  have h1 : dataSlot s.kidx < 82 := by unfold dataSlot; omega
  have h2 : byteIndex s.kidx < 5 := by unfold byteIndex; omega
  simp [packOperands, slotRead, frameByte, h1, h2]

/-- PACK finds no operands for a data bit outside a frame. -/
theorem packOperands_of_gt {s : State} (h : 39 < s.kidx.toNat) : packOperands s = none := by
  have h1 : ¬ dataSlot s.kidx < 82 := by unfold dataSlot; omega
  simp [packOperands, slotRead, h1]

/-- Only READING writes the data outputs. -/
theorem complete_of_ne_reading {tag : OutTag} (h : tag ≠ .reading) (s : State) :
    complete tag s = { s with outTag := tag, done := true, st := St.idle } := by
  simp [complete, h]

/-! ### Runs -/

@[simp] theorem run_zero (s : State) : run 0 s = .next s := rfl

/-- The first tick of a run. -/
theorem run_succ_of_next {s t : State} (n : Nat) (h : step s = .next t) : run (n + 1) s = run n t := by
  simp [run, h]

/-- A run in two parts. -/
theorem run_add {s t : State} {m : Nat} (n : Nat) (h : run m s = .next t) :
    run (m + n) s = run n t := by
  induction m generalizing s with
  | zero => cases h; simp
  | succ m ih =>
    rw [Nat.succ_add]
    cases hs : step s with
    | next u => rw [run_succ_of_next _ hs] at h ⊢; exact ih h
    | fault r => simp [run, hs] at h
    | refused r => simp [run, hs] at h

end Sys2Proof.Machine
end

