-- ==== Sys2Proof/Laws/PerInstr.lean ====
section
/-!
SUPPORT. One lemma per instruction: the code of the instruction is a well-formed code of its format
(30_encoding.md R66 to R69, 70_reset_and_hazards.md R151).
-/

namespace Sys2Proof.Laws.CodeOfFormat

/-- The encoder gives a code that fits in the bits of the instruction's format. -/
def Statement (i : Instr) : Prop := i.wf = true ∧ codeWF i.format (encodeByte i) = true

theorem idle : Statement .idle := ⟨rfl, rfl⟩

theorem wakeHigh : Statement .wakeHigh := ⟨rfl, rfl⟩

theorem startLow : Statement .startLow := ⟨rfl, rfl⟩

theorem releaseWait : Statement .releaseWait := ⟨rfl, rfl⟩

theorem capLow : Statement .capLow := ⟨rfl, rfl⟩

theorem capHigh : Statement .capHigh := ⟨rfl, rfl⟩

theorem thresh : Statement .thresh := ⟨rfl, rfl⟩

theorem pack : Statement .pack := ⟨rfl, rfl⟩

theorem check : Statement .check := ⟨rfl, rfl⟩

theorem start : Statement .start := ⟨rfl, rfl⟩

theorem nocmd : Statement .nocmd := ⟨rfl, rfl⟩

theorem rst : Statement .rst := ⟨rfl, rfl⟩

theorem tagNone : Statement .tagNone := ⟨rfl, rfl⟩

theorem completeReading : Statement .completeReading := ⟨rfl, rfl⟩

theorem completeTimeout : Statement .completeTimeout := ⟨rfl, rfl⟩

theorem completeMismatch : Statement .completeMismatch := ⟨rfl, rfl⟩

theorem reserved9 : Statement .reserved9 := ⟨rfl, rfl⟩

theorem reservedA : Statement .reservedA := ⟨rfl, rfl⟩

theorem reservedB : Statement .reservedB := ⟨rfl, rfl⟩

theorem reservedC : Statement .reservedC := ⟨rfl, rfl⟩

theorem reservedD : Statement .reservedD := ⟨rfl, rfl⟩

theorem reservedE : Statement .reservedE := ⟨rfl, rfl⟩

theorem reservedF : Statement .reservedF := ⟨rfl, rfl⟩

end Sys2Proof.Laws.CodeOfFormat
end

