-- ==== Sys2Proof/Laws/Step.lean ====
section
/-!
SUPPORT. Everything one step can do, said once: a step that answers a next state is one of the named
cases below. Claims about every step follow by `cases` on it.
-/

namespace Sys2Proof.Machine

/-- What one step does to the state, by the rule it follows. -/
inductive StepCase (s : State) : State → Prop where
  /-- `rst = 1` (70_reset_and_hazards.md R151) -/
  | reset (hr : s.inputs.rst = true) : StepCase s (resetRegs s).advance
  /-- IDLE without a command (R81) -/
  | idle (hr : s.inputs.rst = false) (hst : s.st = St.idle) (hs : s.inputs.start = false) :
      StepCase s (idleNoCommand s).advance
  /-- START accepted (R82) -/
  | start (hr : s.inputs.rst = false) (hst : s.st = St.idle) (hs : s.inputs.start = true) :
      StepCase s (acceptStart s).advance
  /-- one more tick of WAKE_HIGH (R83) -/
  | wakeCount (hr : s.inputs.rst = false) (hst : s.st = St.wakeHigh)
      (hh : s.hold + 1 < s.cfg.wakeTicks) :
      StepCase s (holdCount s).advance
  /-- the last tick of WAKE_HIGH (R83) -/
  | wakeEnd (hr : s.inputs.rst = false) (hst : s.st = St.wakeHigh)
      (hh : s.cfg.wakeTicks ≤ s.hold + 1) :
      StepCase s (wakeEnd s).advance
  /-- one more tick of START_LOW (R84) -/
  | lowCount (hr : s.inputs.rst = false) (hst : s.st = St.startLow)
      (hh : s.hold + 1 < s.cfg.startTicks) :
      StepCase s (holdCount s).advance
  /-- the last tick of START_LOW (R84) -/
  | lowEnd (hr : s.inputs.rst = false) (hst : s.st = St.startLow)
      (hh : s.cfg.startTicks ≤ s.hold + 1) :
      StepCase s (startPulseEnd s).advance
  /-- the `(C+1)`-th sample at one level (R92, R94, R95) -/
  | timeout (hr : s.inputs.rst = false) (hw : s.waiting = true)
      (hl : s.inputs.line = s.phaseLevel) (hc : s.cnt = s.cfg.ceiling) :
      StepCase s (complete .timeout s).advance
  /-- one more sample at the level waited out (R92, R94, R95) -/
  | count (hr : s.inputs.rst = false) (hw : s.waiting = true)
      (hl : s.inputs.line = s.phaseLevel) (hc : s.cnt ≠ s.cfg.ceiling) :
      StepCase s (countSample s).advance
  /-- the first Low after release (R92) -/
  | releaseEnd (hr : s.inputs.rst = false) (hst : s.st = St.releaseWait)
      (hl : s.inputs.line = .low) : StepCase s (releaseEnd s).advance
  /-- a High ends a Low phase (R94) -/
  | lowPhase (hr : s.inputs.rst = false) (hst : s.st = St.capLow) (hl : s.inputs.line = .high)
      (hp : s.pidx.toNat ≤ 40) :
      StepCase s (lowPhaseEnd (storeSlot (lowSlot s.pidx) s.cnt s)).advance
  /-- a Low ends a High phase (R95) -/
  | highPhase (hr : s.inputs.rst = false) (hst : s.st = St.capHigh) (hl : s.inputs.line = .low)
      (hp : s.pidx.toNat ≤ 40) :
      StepCase s (highPhaseEnd (storeSlot (highSlot s.pidx) s.cnt s)).advance
  /-- THRESH (R106) -/
  | thresh (hr : s.inputs.rst = false) (hst : s.st = St.thresh) :
      StepCase s (latchThreshold s).advance
  /-- PACK (R107) -/
  | pack (hr : s.inputs.rst = false) (hst : s.st = St.pack) (hk : s.kidx.toNat ≤ 39)
      (d : Nat) (b : Byte) (hd : s.slot[dataSlot s.kidx]? = some d)
      (hb : s.fb[byteIndex s.kidx]? = some b) : StepCase s (packBit d b s).advance
  /-- CHECK with the checksum valid (R116) -/
  | reading (hr : s.inputs.rst = false) (hst : s.st = St.check) (hc : s.csum = s.fb[4]) :
      StepCase s (complete .reading s).advance
  /-- CHECK with the checksum invalid (R116) -/
  | mismatch (hr : s.inputs.rst = false) (hst : s.st = St.check) (hc : s.csum ≠ s.fb[4]) :
      StepCase s (complete .checksumMismatch s).advance

/-- The waiting states, and the level each waits out. -/
theorem waiting_cases {s : State} (h : s.waiting = true) :
    (s.st = St.releaseWait ∧ s.phaseLevel = .high) ∨ (s.st = St.capLow ∧ s.phaseLevel = .low) ∨
      (s.st = St.capHigh ∧ s.phaseLevel = .high) := by
  simp only [State.waiting, Bool.or_eq_true, beq_iff_eq] at h
  rcases h with (h | h) | h <;> simp [h, State.phaseLevel]

/-- A step that answers a next state is one of the cases, in a usable configuration. -/
theorem step_cases {s t : State} (h : step s = .next t) : s.cfg.Usable ∧ StepCase s t := by
  obtain ⟨hc, u, hu, rfl⟩ := step_eq_next.mp h
  refine ⟨hc, ?_⟩
  cases hr : s.inputs.rst with
  | true =>
    rw [op_of_rst hr] at hu
    cases hu
    exact .reset hr
  | false =>
    rw [op_of_not_rst hr] at hu
    rcases stCode_cases s.st with hst | hst | hst | hst | hst | hst | hst | hst | hst | hst
    · rw [hst] at hu
      change execIdle s = .next u at hu
      unfold execIdle at hu
      cases hs : s.inputs.start with
      | true => simp only [hs, if_true] at hu; cases hu; exact .start hr hst hs
      | false =>
        simp only [hs, Bool.false_eq_true, if_false] at hu; cases hu; exact .idle hr hst hs
    · rw [hst] at hu
      change execWakeHigh s = .next u at hu
      unfold execWakeHigh at hu
      rcases holdTick_cases s.cfg.wakeTicks wakeEnd s with
        ⟨hh, he⟩ | ⟨hh, he⟩ <;> rw [he] at hu <;> cases hu
      · exact .wakeEnd hr hst hh
      · exact .wakeCount hr hst hh
    · rw [hst] at hu
      change execStartLow s = .next u at hu
      unfold execStartLow at hu
      rcases holdTick_cases s.cfg.startTicks startPulseEnd s
        with ⟨hh, he⟩ | ⟨hh, he⟩ <;> rw [he] at hu <;> cases hu
      · exact .lowEnd hr hst hh
      · exact .lowCount hr hst hh
    · rw [hst] at hu
      change execReleaseWait s = .next u at hu
      unfold execReleaseWait at hu
      have hw : s.waiting = true := by simp [State.waiting, hst]
      have hp : s.phaseLevel = .high := by simp [State.phaseLevel, hst]
      cases hl : s.inputs.line with
      | low => simp only [hl] at hu; cases hu; exact .releaseEnd hr hst hl
      | high =>
        simp only [hl] at hu
        rcases sameLevelSample_cases s with ⟨hn, he⟩ | ⟨hn, he⟩ <;> rw [he] at hu <;> cases hu
        · exact .timeout hr hw (by rw [hl, hp]) hn
        · exact .count hr hw (by rw [hl, hp]) hn
    · rw [hst] at hu
      change execCapLow s = .next u at hu
      unfold execCapLow at hu
      have hw : s.waiting = true := by simp [State.waiting, hst]
      have hp : s.phaseLevel = .low := by simp [State.phaseLevel, hst]
      cases hl : s.inputs.line with
      | low =>
        simp only [hl] at hu
        rcases sameLevelSample_cases s with ⟨hn, he⟩ | ⟨hn, he⟩ <;> rw [he] at hu <;> cases hu
        · exact .timeout hr hw (by rw [hl, hp]) hn
        · exact .count hr hw (by rw [hl, hp]) hn
      | high =>
        simp only [hl] at hu
        rcases Nat.lt_or_ge (lowSlot s.pidx) 82 with hn | hn
        · rw [slotWrite_of_lt hn] at hu
          cases hu
          exact .lowPhase hr hst hl (by unfold lowSlot at hn; omega)
        · rw [slotWrite_of_ge hn] at hu; cases hu
    · rw [hst] at hu
      change execCapHigh s = .next u at hu
      unfold execCapHigh at hu
      have hw : s.waiting = true := by simp [State.waiting, hst]
      have hp : s.phaseLevel = .high := by simp [State.phaseLevel, hst]
      cases hl : s.inputs.line with
      | high =>
        simp only [hl] at hu
        rcases sameLevelSample_cases s with ⟨hn, he⟩ | ⟨hn, he⟩ <;> rw [he] at hu <;> cases hu
        · exact .timeout hr hw (by rw [hl, hp]) hn
        · exact .count hr hw (by rw [hl, hp]) hn
      | low =>
        simp only [hl] at hu
        rcases Nat.lt_or_ge (highSlot s.pidx) 82 with hn | hn
        · rw [slotWrite_of_lt hn] at hu
          cases hu
          exact .highPhase hr hst hl (by unfold highSlot at hn; omega)
        · rw [slotWrite_of_ge hn] at hu; cases hu
    · rw [hst] at hu
      change execThresh s = .next u at hu
      cases hu
      exact .thresh hr hst
    · rw [hst] at hu
      change execPack s = .next u at hu
      unfold execPack at hu
      rcases Nat.lt_or_ge 39 s.kidx.toNat with hk | hk
      · rw [packOperands_of_gt hk] at hu; cases hu
      · rw [packOperands_of_le hk] at hu
        cases hu
        exact .pack hr hst hk _ _ (Vector.getElem?_eq_getElem _) (Vector.getElem?_eq_getElem _)
    · rw [hst] at hu
      change execCheck s = .next u at hu
      unfold execCheck at hu
      by_cases hq : s.csum = s.fb[4]
      · rw [if_pos hq] at hu; cases hu; exact .reading hr hst hq
      · rw [if_neg hq] at hu; cases hu; exact .mismatch hr hst hq
    · rw [exec_reserved hst] at hu; cases hu

end Sys2Proof.Machine
end

