-- ==== Sys2Proof/Tests/Slice0.lean ====
section
/-!
SUPPORT. Tests of one step each, expected values from spec/ (the rule or vector is named at each), and
for every statement with hypotheses a concrete state that meets them.
-/

namespace Sys2Proof.Tests

open Sys2Proof Sys2Proof.Machine

/-! ### Helpers -/

/-- The configuration of 95_test_vectors.md: `C = 20`, `WAKE_TICKS = 4`, `START_TICKS = 2`. -/
def cfg : Params := ⟨20, 4, 2, 1, 1, 0⟩

/-- The reset state in sequencer state `c`, with one tick to sample. -/
def at' (c : StCode) (i : Tick) : State := { State.resetWith cfg [i] 0 with st := c }

/-- A tick without reset. -/
def tick (start : Bool) (line : Level) : Tick := ⟨false, start, line⟩

/-- The next state of an outcome, if it is one. -/
def nextOf : Host.Outcome State Fault Refusal → Option State
  | .next s => some s
  | _ => none

/-- A field of the state after a step. -/
def after {α : Type} (f : State → α) (s : State) : Option α := (nextOf (step s)).map f

/-- The step faults. -/
def faultOf (s : State) : Option Fault :=
  match step s with
  | .fault r => some r
  | _ => none

/-- The step is refused. -/
def refusalOf (s : State) : Option Refusal :=
  match step s with
  | .refused r => some r
  | _ => none

/-! ### WellFormed: each check refuses an ill-formed term -/

theorem test_wf_state_code_bits : codeWF .fsmState 0x10#8 = false := by decide
theorem test_wf_command_bits : codeWF .hostCmd 0x02#8 = false := by decide
theorem test_wf_tag_bits : codeWF .outcomeTag 0x04#8 = false := by decide
theorem test_wf_reset_released : codeWF .resetInput 0x00#8 = false := by decide
theorem test_wf_reset_bits : codeWF .resetInput 0x02#8 = false := by decide
theorem test_wf_ceiling_zero : Params.wf { cfg with ceiling := 0 } = false := by decide
theorem test_wf_wake_zero : Params.wf { cfg with wakeTicks := 0 } = false := by decide
theorem test_wf_start_zero : Params.wf { cfg with startTicks := 0 } = false := by decide
theorem test_wf_tick_rate_zero : Params.wf { cfg with fTickNum := 0 } = false := by decide
theorem test_wf_tick_rate_denominator : Params.wf { cfg with fTickDen := 0 } = false := by decide
theorem test_wf_second_driver : Params.wf { cfg with otherDrivers := 1 } = false := by decide
theorem test_wf_cfg : Params.wf cfg = true := by decide

/-! ### Decode: each constructor, the bits written out from 30_encoding.md R66 to R69 -/

theorem test_decode_idle : decode .fsmState [0b00000000#8] = .ok (.idle, []) := rfl
theorem test_decode_wakeHigh : decode .fsmState [0b00000001#8] = .ok (.wakeHigh, []) := rfl
theorem test_decode_startLow : decode .fsmState [0b00000010#8] = .ok (.startLow, []) := rfl
theorem test_decode_releaseWait : decode .fsmState [0b00000011#8] = .ok (.releaseWait, []) := rfl
theorem test_decode_capLow : decode .fsmState [0b00000100#8] = .ok (.capLow, []) := rfl
theorem test_decode_capHigh : decode .fsmState [0b00000101#8] = .ok (.capHigh, []) := rfl
theorem test_decode_thresh : decode .fsmState [0b00000110#8] = .ok (.thresh, []) := rfl
theorem test_decode_pack : decode .fsmState [0b00000111#8] = .ok (.pack, []) := rfl
theorem test_decode_check : decode .fsmState [0b00001000#8] = .ok (.check, []) := rfl
theorem test_decode_reserved9 : decode .fsmState [0b00001001#8] = .ok (.reserved9, []) := rfl
theorem test_decode_reservedA : decode .fsmState [0b00001010#8] = .ok (.reservedA, []) := rfl
theorem test_decode_reservedB : decode .fsmState [0b00001011#8] = .ok (.reservedB, []) := rfl
theorem test_decode_reservedC : decode .fsmState [0b00001100#8] = .ok (.reservedC, []) := rfl
theorem test_decode_reservedD : decode .fsmState [0b00001101#8] = .ok (.reservedD, []) := rfl
theorem test_decode_reservedE : decode .fsmState [0b00001110#8] = .ok (.reservedE, []) := rfl
theorem test_decode_reservedF : decode .fsmState [0b00001111#8] = .ok (.reservedF, []) := rfl
theorem test_decode_start : decode .hostCmd [0b00000001#8] = .ok (.start, []) := rfl
theorem test_decode_nocmd : decode .hostCmd [0b00000000#8] = .ok (.nocmd, []) := rfl
theorem test_decode_rst : decode .resetInput [0b00000001#8] = .ok (.rst, []) := rfl
theorem test_decode_tagNone : decode .outcomeTag [0b00000000#8] = .ok (.tagNone, []) := rfl
theorem test_decode_completeReading : decode .outcomeTag [0b00000001#8] = .ok (.completeReading, []) := rfl
theorem test_decode_completeTimeout : decode .outcomeTag [0b00000010#8] = .ok (.completeTimeout, []) := rfl
theorem test_decode_completeMismatch : decode .outcomeTag [0b00000011#8] = .ok (.completeMismatch, []) := rfl

theorem test_decode_rejects_bits : decode .fsmState [0x10#8] = .error .bitsBeyondField := rfl
theorem test_decode_rejects_rst0 : decode .resetInput [0x00#8] = .error .resetNotAsserted := rfl
theorem test_decode_rejects_empty : decode .hostCmd [] = .error .noBytes := rfl
theorem test_table_word_state : decodeTableWord 8 5 = some .capHigh := by decide
theorem test_table_word_command : decodeTableWord 1 1 = some .start := by decide
theorem test_table_word_tag : decodeTableWord 2 2 = some .completeTimeout := by decide
theorem test_table_word_beyond : decodeTableWord 8 16 = none := by decide

/-! ### Fetch: the next step after reset runs the placed instruction -/

/-- WAKE_HIGH of R66 runs first after reset, whatever the parameters are. -/
theorem test_fetch_wake : after (fun _ => ()) (State.reset.withFetchWord 8 1) = some () := by
  decide
/-- A placed reserved code faults (R37). -/
theorem test_fetch_reserved :
    faultOf (State.reset.withFetchWord 8 9) = some (.reservedState 0x9#4) := by decide
/-- A placed START begins a read (R82). -/
theorem test_fetch_start : after State.st (State.reset.withFetchWord 1 1) = some 0x1#4 := by decide
/-- A placed COMPLETE.TIMEOUT ends with its tag (R69, R117). -/
theorem test_fetch_timeout :
    after State.outTag (State.reset.withFetchWord 2 2) = some .timeout := by decide
/-- A placed COMPLETE.CHECKSUM_MISMATCH ends with its tag (R69, R117). -/
theorem test_fetch_mismatch :
    after State.outTag (State.reset.withFetchWord 2 3) = some .checksumMismatch := by decide

/-! ### Handshake (40_handshake.md) -/

/-- V1, tick 1: START from reset enters WAKE_HIGH. -/
theorem test_idle_start :
    after (fun s => (s.st, s.hold)) (at' 0x0#4 (tick true .high)) = some (0x1#4, 0) := by decide
/-- R82 (a): START in the tick after a COMPLETE clears `done` and the outcome. -/
theorem test_idle_start_clears :
    after (fun s => (s.done, s.outTag, s.outHum))
      { at' 0x0#4 (tick true .low) with done := true, outTag := .reading, outHum := 652#16 } =
      some (false, .none, 0#16) := by decide
/-- P1, tick 395: an idle NOP changes only `done`. -/
theorem test_nocmd_clears_done :
    after (fun s => (s.st, s.done, s.outTag))
      { at' 0x0#4 (tick false .high) with done := true, outTag := .reading } =
      some (0x0#4, false, .reading) := by decide
/-- R81: no command in IDLE clears `done` and keeps the outcome. -/
theorem test_nocmd :
    (nextOf (exec .nocmd { at' 0x0#4 (tick false .high) with done := true, outTag := .timeout })).map
      (fun s => (s.done, s.outTag)) = some (false, .timeout) := by decide
/-- R85: START in WAKE_HIGH is turned away. -/
theorem test_start_turned_away :
    (nextOf (exec .start (at' 0x1#4 (tick true .high)))).map State.st = some 0x1#4 := by decide
/-- V1, tick 4: `hold` goes from 2 to 3 in WAKE_HIGH. -/
theorem test_wake_counts :
    after (fun s => (s.st, s.hold)) { at' 0x1#4 (tick false .high) with hold := 2 } =
      some (0x1#4, 3) := by decide
/-- V1, tick 5: the fourth tick leaves WAKE_HIGH. -/
theorem test_wake_ends :
    after (fun s => (s.st, s.hold, s.padOe, s.padOut))
      { at' 0x1#4 (tick false .high) with hold := 3 } = some (0x2#4, 0, true, false) := by decide
/-- V1, tick 6: `hold` goes from 0 to 1 in START_LOW. -/
theorem test_start_low_counts :
    after (fun s => (s.st, s.hold)) (at' 0x2#4 (tick false .high)) = some (0x2#4, 1) := by decide
/-- V1, tick 7: the second tick releases the line. -/
theorem test_start_low_ends :
    after (fun s => (s.st, s.hold, s.cnt, s.padOe))
      { at' 0x2#4 (tick false .high) with hold := 1, cnt := 9 } = some (0x3#4, 0, 0, false) := by
  decide

/-! ### Capture (41_capture.md) -/

/-- V6: the 21st High of the release wait times out. -/
theorem test_release_timeout :
    after (fun s => (s.st, s.outTag, s.done, s.cnt))
      { at' 0x3#4 (tick false .high) with cnt := 20 } = some (0x0#4, .timeout, true, 20) := by decide
/-- V5: the Low after 20 Highs enters CAP_LOW with `cnt = 1`. -/
theorem test_release_low :
    after (fun s => (s.st, s.outTag, s.done, s.cnt, s.pidx))
      { at' 0x3#4 (tick false .low) with cnt := 20, pidx := 7#6 } =
      some (0x4#4, .none, false, 1, 0#6) := by decide
/-- R94 example: the High after 8 Lows writes `slot[0] = 8`. -/
theorem test_cap_low_stores :
    after (fun s => (s.st, s.cnt, s.slot[0], s.slot[1]))
      { at' 0x4#4 (tick false .high) with cnt := 8 } = some (0x5#4, 1, 8, 0) := by decide
/-- V12: with `C = 1` the second Low times out. -/
theorem test_cap_low_timeout :
    after (fun s => (s.st, s.outTag))
      { at' 0x4#4 (tick false .low) with cfg := { cfg with ceiling := 1 }, cnt := 1 } =
      some (0x0#4, .timeout) := by decide
/-- R95 example: the Low after pair 40 writes `slot[81] = 7` and makes the sum 125. -/
theorem test_cap_high_last :
    after (fun s => (s.st, s.slot[81], s.hsum, s.pidx))
      { at' 0x5#4 (tick false .low) with cnt := 7, hsum := 118, pidx := 40#6 } =
      some (0x6#4, 7, 125, 40#6) := by decide
/-- R95 (a): the framing pair's High goes to `slot[1]` and not into the sum. -/
theorem test_cap_high_framing :
    after (fun s => (s.st, s.slot[1], s.hsum, s.pidx, s.cnt))
      { at' 0x5#4 (tick true .low) with cnt := 8 } = some (0x4#4, 8, 0, 1#6, 1) := by decide

/-! ### Decode (42_decode.md) -/

/-- R106 example: a sum of 125 gives `thr = 125`. -/
theorem test_thresh :
    after (fun s => (s.st, s.thr, s.kidx))
      { at' 0x6#4 (tick false .low) with hsum := 125, kidx := 5#6 } = some (0x7#4, 125, 0#6) := by
  decide
/-- V14: a duration equal to the average 4 is 1; it completes byte 0, which enters `csum`. -/
theorem test_pack_tie :
    after (fun s => (s.fb[0], s.csum, s.kidx))
      { at' 0x7#4 (tick false .low) with
        thr := 160, kidx := 7#6, slot := Vector.replicate 82 4, fb := Vector.replicate 5 0x0F#8 } =
      some (0x1F#8, 0x1F#8, 8#6) := by decide
/-- R107 (c): byte 4 never enters `csum`, and data bit 39 ends PACK. -/
theorem test_pack_last :
    after (fun s => (s.st, s.fb[4], s.csum, s.kidx))
      { at' 0x7#4 (tick false .low) with
        thr := 125, kidx := 39#6, csum := 0xA0#8
        slot := Vector.replicate 82 2, fb := Vector.replicate 5 0x50#8 } =
      some (0x8#4, 0xA0#8, 0xA0#8, 39#6) := by decide

/-! ### Outcome (43_check_outcome.md) -/

/-- T1, R117 example: `02 8C 01 11 A0` is a READING. -/
theorem test_check_reading :
    after (fun s => (s.outTag, s.outHum, s.outTsign, s.outTmag, s.outFrame))
      { at' 0x8#4 (tick false .low) with
        csum := 0xA0#8, fb := #v[0x02#8, 0x8C#8, 0x01#8, 0x11#8, 0xA0#8] } =
      some (.reading, 0x028C#16, false, 0x0111#15, 0x028C0111A0#40) := by decide
/-- V19: `02 8C 01 11 A1` is a CHECKSUM_MISMATCH with data 0. -/
theorem test_check_mismatch :
    after (fun s => (s.outTag, s.outHum, s.outFrame, s.done, s.st))
      { at' 0x8#4 (tick false .low) with
        csum := 0xA0#8, fb := #v[0x02#8, 0x8C#8, 0x01#8, 0x11#8, 0xA1#8] } =
      some (.checksumMismatch, 0#16, 0#40, true, 0x0#4) := by decide
/-- T2 and V21: `00 01 80 0A 8B` has the sign set and magnitude 10. -/
theorem test_complete_reading_sign :
    (nextOf (exec .completeReading { at' 0x8#4 (tick false .low) with
        fb := #v[0x00#8, 0x01#8, 0x80#8, 0x0A#8, 0x8B#8] })).map
      (fun s => (s.outHum, s.outTsign, s.outTmag)) = some (1#16, true, 10#15) := by decide
/-- V20: the extremes. -/
theorem test_complete_reading_extremes :
    (nextOf (exec .completeReading { at' 0x8#4 (tick false .low) with
        fb := #v[0xFF#8, 0xFF#8, 0xFF#8, 0xFF#8, 0xFC#8] })).map
      (fun s => (s.outHum, s.outTsign, s.outTmag)) = some (0xFFFF#16, true, 0x7FFF#15) := by decide
/-- R117: a timeout keeps the working registers. -/
theorem test_complete_timeout :
    (nextOf (exec .completeTimeout { at' 0x5#4 (tick false .high) with cnt := 20, pidx := 3#6 })).map
      (fun s => (s.outTag, s.done, s.st, s.cnt, s.pidx)) =
      some (.timeout, true, 0x0#4, 20, 3#6) := by decide
/-- R117: a mismatch carries no data. -/
theorem test_complete_mismatch :
    (nextOf (exec .completeMismatch { at' 0x8#4 (tick false .high) with
        fb := Vector.replicate 5 0xFF#8 })).map (fun s => (s.outTag, s.done, s.outHum)) =
      some (.checksumMismatch, true, 0#16) := by decide
/-- R69: NONE carries no data. -/
theorem test_tag_none :
    (nextOf (exec .tagNone { at' 0x1#4 (tick false .high) with
        outTag := .reading, outHum := 5#16 })).map (fun s => (s.outTag, s.outHum)) =
      some (.none, 0#16) := by decide

/-! ### Reset, reserved codes, refusals -/

/-- V24: `rst` during WAKE_HIGH returns every register to its reset value. -/
theorem test_rst :
    after id { at' 0x1#4 ⟨true, true, .low⟩ with hold := 3, cnt := 5, outTag := .timeout } =
      some (State.resetWith cfg [] 1) := by decide
/-- R137: `rst` has priority over a reserved code. -/
theorem test_rst_over_reserved : after State.st (at' 0xF#4 ⟨true, false, .low⟩) = some 0x0#4 := by
  decide

/-- R37: code 9 is a fault. -/
theorem test_reserved9 : faultOf (at' 0x9#4 (tick true .high)) = some (.reservedState 0x9#4) := by
  decide
/-- R37: code A is a fault. -/
theorem test_reservedA : faultOf (at' 0xA#4 (tick true .high)) = some (.reservedState 0xA#4) := by
  decide
/-- R37: code B is a fault. -/
theorem test_reservedB : faultOf (at' 0xB#4 (tick true .high)) = some (.reservedState 0xB#4) := by
  decide
/-- R37: code C is a fault. -/
theorem test_reservedC : faultOf (at' 0xC#4 (tick true .high)) = some (.reservedState 0xC#4) := by
  decide
/-- R37: code D is a fault. -/
theorem test_reservedD : faultOf (at' 0xD#4 (tick true .high)) = some (.reservedState 0xD#4) := by
  decide
/-- R37: code E is a fault. -/
theorem test_reservedE : faultOf (at' 0xE#4 (tick true .high)) = some (.reservedState 0xE#4) := by
  decide
/-- R37: code F is a fault. -/
theorem test_reservedF : faultOf (at' 0xF#4 (tick true .high)) = some (.reservedState 0xF#4) := by
  decide
/-- R146: a second driver is refused. -/
theorem test_shared_line :
    refusalOf { at' 0x0#4 (tick true .high) with cfg := { cfg with otherDrivers := 1 } } =
      some .sharedLine := by decide
/-- R6: `C = 0` is no configuration. -/
theorem test_illegal_parameter :
    refusalOf { at' 0x0#4 (tick true .high) with cfg := { cfg with ceiling := 0 } } =
      some .illegalParameter := by decide
/-- R42: pair 41 has no slot. -/
theorem test_no_slot_82 :
    faultOf { at' 0x4#4 (tick false .high) with pidx := 41#6 } = some (.storageIndex 82) := by decide

/-! ### Witnesses: a state and operands that meet the hypotheses of each statement

One theorem for each statement with hypotheses (`witness_<statement>`), with one conjunct for each of
its clauses, at a boundary value where the clause has a range. -/

theorem cfg_usable : cfg.Usable := by decide

/-- A state after reset meets the invariant. -/
theorem inv_reset (i : Tick) : (at' 0x0#4 i).Inv := by
  constructor
  · constructor <;> simp [at', State.resetWith, State.busy, State.padOe, State.DataZero]
  · exact cfg_usable
  · show 0 < max cfg.wakeTicks cfg.startTicks
    decide
  all_goals simp [at', State.resetWith]

/-- CAP_LOW of pair 0 with every allowed sample counted. -/
def capLowFull (i : Tick) : State := { at' 0x4#4 i with cnt := 20 }

/-- It meets the invariant. -/
theorem inv_capLowFull (i : Tick) : (capLowFull i).Inv := by
  constructor
  · constructor <;>
      simp [capLowFull, at', State.resetWith, State.busy, State.padOe, State.DataZero, cfg]
  · exact cfg_usable
  · show 0 < max cfg.wakeTicks cfg.startTicks
    decide
  all_goals simp [capLowFull, at', State.resetWith]

/-- It has recorded what a capture records at that point. -/
theorem captureRecord_capLowFull (i : Tick) : (capLowFull i).CaptureRecord := by
  constructor <;> simp [capLowFull, at', State.resetWith, dataSum]

/-- Nothing is packed yet. -/
theorem decodeRecord_capLowFull (i : Tick) : (capLowFull i).DecodeRecord := by
  constructor <;> simp [capLowFull, at', State.resetWith]

/-- CHECK after V11's capture, in which every duration is 1. -/
def checkAllOnes (i : Tick) : State :=
  { at' 0x8#4 i with
    slot := Vector.replicate 82 1, hsum := 40, thr := 40, pidx := 40#6, kidx := 39#6, cnt := 1
    fb := Vector.replicate 5 0xFF#8, csum := 0xFC#8 }

theorem captureRecord_checkAllOnes (i : Tick) : (checkAllOnes i).CaptureRecord := by
  constructor
  · simp [checkAllOnes, at']
  · simp [checkAllOnes, at']
  · simp [checkAllOnes, at']
  · intro _ n h; simp [checkAllOnes]
  · intro _; show 40 = dataSum (Vector.replicate 82 1) 40; decide

theorem decodeRecord_checkAllOnes (i : Tick) : (checkAllOnes i).DecodeRecord := by
  constructor
  · simp [checkAllOnes, at']
  · simp [checkAllOnes, at']
  · simp [checkAllOnes, at']
  · simp [checkAllOnes, at']
  · intro _
    show ∀ j (h : j < 5), (Vector.replicate 5 0xFF#8)[j] =
      packedByte (Vector.replicate 82 1) 40 j 8
    decide
  · intro _; show 0xFC#8 = payloadSum (Vector.replicate 5 0xFF#8); decide

theorem inv_checkAllOnes (i : Tick) : (checkAllOnes i).Inv := by
  constructor
  · constructor <;>
      simp [checkAllOnes, at', State.resetWith, State.busy, State.padOe, State.DataZero, cfg]
  · exact cfg_usable
  · show 0 < max cfg.wakeTicks cfg.startTicks
    decide
  all_goals simp [checkAllOnes, at', State.resetWith]

theorem witness_DecodeAndEncodeAgree :
    Instr.pack.wf = true ∧ decode .fsmState [0x0F#8, 0x01#8] = .ok (.reservedF, [0x01#8]) ∧
      codeWF .hostCmd 0x01#8 = true := ⟨rfl, rfl, rfl⟩

theorem witness_StepRunsTheDecodedInstruction :
    let s := at' 0x6#4 (tick false .low)
    s.cfg.Usable ∧ Instr.thresh.wf = true ∧ decode s.fetch.1 s.fetch.2 = .ok (.thresh, []) :=
  ⟨cfg_usable, rfl, rfl⟩

theorem witness_ConfigurationsRefused :
    (⟨20, 4, 2, 1, 1, 1⟩ : Params).otherDrivers ≠ 0 ∧ (⟨0, 4, 2, 1, 1, 0⟩ : Params).ceiling = 0 ∧
      (⟨20, 0, 2, 1, 1, 0⟩ : Params).wakeTicks = 0 ∧ (⟨20, 4, 0, 1, 1, 0⟩ : Params).startTicks = 0 ∧
      (⟨20, 4, 2, 0, 1, 0⟩ : Params).fTickNum = 0 ∧ (⟨20, 4, 2, 1, 0, 0⟩ : Params).fTickDen = 0 ∧
      cfg.Usable := by decide

theorem witness_ParametersNeverChange :
    ∃ t, step (at' 0x0#4 (tick true .high)) = .next t := ⟨_, rfl⟩

theorem witness_ResetOverridesEverything :
    let s := at' 0xF#4 ⟨true, true, .low⟩
    s.cfg.Usable ∧ s.inputs.rst = true := by decide

theorem witness_IdleTakesStart :
    (at' 0x0#4 (tick false .low)).inputs.start = false ∧
      (at' 0x0#4 (tick true .low)).inputs.start = true := by decide

theorem witness_CommandsTakenOnlyInIdle :
    let s := at' 0x0#4 (tick true .low)
    (s.st = 0x0#4 ∧ s.inputs.rst = false) ∧ (at' 0x1#4 (tick true .low)).st ≠ 0x0#4 ∧
      (at' 0x0#4 ⟨true, true, .low⟩).inputs.rst = true := by decide

theorem witness_HoldPhasesCountTicks :
    let s (h : Nat) : State := { at' 0x1#4 (tick false .low) with hold := h }
    ((s 3).cfg.wakeTicks ≤ (s 3).hold + 1) ∧ ((s 2).hold + 1 < (s 2).cfg.wakeTicks) ∧
      ((s 1).cfg.startTicks ≤ (s 1).hold + 1) ∧ ((s 0).hold + 1 < (s 0).cfg.startTicks) := by
  decide

theorem witness_PadAndBusyFollowTheState :
    (at' 0x1#4 (tick false .low)).st = 0x1#4 ∧ (at' 0x2#4 (tick false .low)).st = 0x2#4 ∧
      (at' 0x3#4 (tick false .low)).st ≠ 0x1#4 ∧ (at' 0x3#4 (tick false .low)).st ≠ 0x2#4 := by
  decide

theorem witness_LineDrivenExactly :
    (let ts := List.replicate 6 Stim.nop
     let s : State := { at' 0x0#4 Stim.start with stim := Stim.start :: (ts ++ [Stim.rst]) }
     s.cfg.Usable ∧ s.st = 0x0#4 ∧ s.stim = Stim.start :: (ts ++ [Stim.rst]) ∧
      Stim.start.start = true ∧ Stim.start.rst = false ∧ Stim.noReset ts = true ∧
      ts.length = s.cfg.wakeTicks + s.cfg.startTicks) ∧
    (let s := at' 0x0#4 (tick true .high)
     ∃ t, step s = .next t ∧ s.padOe = false ∧ t.padOe = true) := by
  refine ⟨by decide, _, rfl, rfl, rfl⟩

theorem witness_StartIgnoredWhileBusy : (at' 0x5#4 (tick true .high)).st ≠ 0x0#4 := by decide

theorem witness_ReadForgetsThePast :
    let s := at' 0x0#4 (tick true .high)
    let s' : State := { s with outTag := .timeout, cnt := 20 }
    s.cfg.Usable ∧ s'.cfg = s.cfg ∧ s'.stim = s.stim ∧ s'.tick = s.tick ∧ s.st = 0x0#4 ∧
      s'.st = 0x0#4 ∧ s.inputs.start = true ∧ s.inputs.rst = false := by decide

theorem witness_ReleaseWaitTick :
    let s (c : Nat) (l : Level) : State := { at' 0x3#4 (tick false l) with cnt := c }
    ((s 20 .high).inputs.line = .high ∧ (s 20 .high).cnt = (s 20 .high).cfg.ceiling) ∧
      ((s 19 .high).inputs.line = .high ∧ (s 19 .high).cnt ≠ (s 19 .high).cfg.ceiling) ∧
      (s 20 .low).inputs.line = .low := by decide

theorem witness_CapLowTick :
    let s (c : Nat) (p : BitVec 6) (l : Level) : State :=
      { at' 0x4#4 (tick false l) with cnt := c, pidx := p }
    ((s 20 0#6 .low).inputs.line = .low ∧ (s 20 0#6 .low).cnt = (s 20 0#6 .low).cfg.ceiling) ∧
      ((s 19 0#6 .low).inputs.line = .low ∧
        (s 19 0#6 .low).cnt ≠ (s 19 0#6 .low).cfg.ceiling) ∧
      ((s 8 40#6 .high).inputs.line = .high ∧ (s 8 40#6 .high).pidx.toNat ≤ 40) ∧
      ((s 8 41#6 .high).inputs.line = .high ∧ 40 < (s 8 41#6 .high).pidx.toNat) := by decide

theorem witness_CapHighTick :
    let s (c : Nat) (p : BitVec 6) (l : Level) : State :=
      { at' 0x5#4 (tick false l) with cnt := c, pidx := p }
    ((s 20 0#6 .high).inputs.line = .high ∧
        (s 20 0#6 .high).cnt = (s 20 0#6 .high).cfg.ceiling) ∧
      ((s 19 0#6 .high).inputs.line = .high ∧
        (s 19 0#6 .high).cnt ≠ (s 19 0#6 .high).cfg.ceiling) ∧
      ((s 8 39#6 .low).inputs.line = .low ∧ (s 8 39#6 .low).pidx.toNat < 40) ∧
      ((s 8 40#6 .low).inputs.line = .low ∧ (s 8 40#6 .low).pidx.toNat = 40) ∧
      ((s 8 41#6 .low).inputs.line = .low ∧ 40 < (s 8 41#6 .low).pidx.toNat) := by decide

theorem witness_LineReadOnlyWhileWaiting :
    let s := at' 0x6#4 (tick false .high)
    (s.st ≠ 0x3#4 ∧ s.st ≠ 0x4#4 ∧ s.st ≠ 0x5#4) ∧
      (s.cfg.Usable ∧ (tick false .high).rst = false ∧
        ((at' 0x5#4 (tick false .high)).st = 0x3#4 ∨ (at' 0x5#4 (tick false .high)).st = 0x4#4 ∨
          (at' 0x5#4 (tick false .high)).st = 0x5#4)) := by decide

theorem witness_LevelChangeBeatsTheCeiling :
    let s (c : StCode) (l : Level) : State :=
      { at' c (tick false l) with cnt := 20, pidx := 40#6 }
    (∀ c l, (s c l).cfg.Usable ∧ (s c l).inputs.rst = false ∧
      (s c l).cnt = (s c l).cfg.ceiling ∧ (s c l).pidx.toNat ≤ 40) ∧
    ((s 0x3#4 .low).st = 0x3#4 ∧ (s 0x3#4 .low).inputs.line = .low) ∧
    ((s 0x4#4 .high).st = 0x4#4 ∧ (s 0x4#4 .high).inputs.line = .high) ∧
    ((s 0x5#4 .low).st = 0x5#4 ∧ (s 0x5#4 .low).inputs.line = .low) ∧
    ∃ t, (s 0x4#4 .low).waiting = true ∧ (s 0x4#4 .low).inputs.rst = false ∧
      step (s 0x4#4 .low) = .next t ∧ t.done = true := by
  refine ⟨fun c l => ⟨cfg_usable, rfl, rfl, Nat.le_refl 40⟩, ⟨rfl, rfl⟩, ⟨rfl, rfl⟩, ⟨rfl, rfl⟩, _,
    rfl,
    rfl, rfl, rfl⟩

theorem witness_OverlongPhaseTimesOut :
    let ts := [tick true .low]
    let s : State := { capLowFull (tick true .low) with stim := ts ++ [Stim.nop] }
    s.cfg.Usable ∧ s.waiting = true ∧ s.cnt ≤ s.cfg.ceiling ∧ s.stim = ts ++ [Stim.nop] ∧
      ts.length = s.cfg.ceiling + 1 - s.cnt ∧
      ∀ i ∈ ts, i.rst = false ∧ i.line = s.phaseLevel := by decide

theorem witness_WellTimedSequenceIsCaptured :
    let pairs := List.replicate 41 (20, 1)
    let s : State := { at' 0x3#4 Stim.nop with stim := Stim.capture 20 pairs ++ [Stim.rst] }
    s.cfg.Usable ∧ s.st = 0x3#4 ∧ s.cnt = 0 ∧ s.hsum = 0 ∧ 20 ≤ s.cfg.ceiling ∧
      pairs.length = 41 ∧
      (∀ p ∈ pairs, (1 ≤ p.1 ∧ p.1 ≤ s.cfg.ceiling) ∧ 1 ≤ p.2 ∧ p.2 ≤ s.cfg.ceiling) ∧
      s.stim = Stim.capture 20 pairs ++ [Stim.rst] := by
  refine ⟨cfg_usable, rfl, rfl, rfl, by decide, by decide, by decide, rfl⟩

theorem witness_EverySequenceIsCapturedOrTimesOut :
    let s : State := { at' 0x3#4 Stim.nop with
      cfg := ⟨1, 1, 1, 1, 1, 0⟩, stim := List.replicate 84 Stim.nop }
    s.cfg.Usable ∧ s.st = 0x3#4 ∧ s.cnt = 0 ∧ Stim.noReset s.stim = true ∧
      83 * s.cfg.ceiling + 1 ≤ s.stim.length := by decide

theorem witness_TimeoutCausesAreUnreported :
    let s := capLowFull (tick false .low)
    ∃ t, s.Inv ∧ s.inputs.rst = false ∧ s.timeoutCause.isSome = true ∧ step s = .next t :=
  ⟨_, inv_capLowFull _, rfl, rfl, rfl⟩

theorem witness_PackShiftsOneBit :
    ({ at' 0x7#4 Stim.nop with kidx := 39#6 } : State).kidx.toNat ≤ 39 ∧
      39 < ({ at' 0x7#4 Stim.nop with kidx := 40#6 } : State).kidx.toNat := by decide

theorem witness_PackedFrameAfterFortySteps :
    let ts := List.replicate 41 Stim.nop
    let s : State := { at' 0x6#4 Stim.nop with stim := ts ++ [Stim.rst] }
    s.cfg.Usable ∧ s.st = 0x6#4 ∧ s.csum = 0#8 ∧ s.stim = ts ++ [Stim.rst] ∧ ts.length = 41 ∧
      Stim.noReset ts = true := ⟨cfg_usable, rfl, rfl, rfl, rfl, rfl⟩

/-- Data bits 31 and 39 last 7 samples, the others 2: slots `2k + 3` are 65 and 81. -/
theorem witness_UniformFrameDecodes :
    let slot := ((Vector.replicate 82 2).setIfInBounds 65 7).setIfInBounds 81 7
    let bit : Nat → Bool := fun k => k == 31 || k == 39
    (∀ k < 40, dataDuration slot k = if bit k then 7 else 2) ∧ ∃ k < 40, bit k = true := by
  refine ⟨fun k hk => ?_, 31, by decide, rfl⟩
  interval_cases k <;> rfl

/-- The all-zero frame of V17. -/
theorem witness_UniformFrameDecodes_zeros :
    let bit : Nat → Bool := fun _ => false
    (∀ k < 40, dataDuration (Vector.replicate 82 2) k = if bit k then 7 else 2) ∧
      ∀ k < 40, bit k = false := by
  refine ⟨fun k hk => ?_, fun _ _ => rfl⟩
  interval_cases k <;> rfl

theorem witness_AllZeroFrameNeverDecoded :
    let s := checkAllOnes (tick false .low)
    s.CaptureRecord ∧ s.DecodeRecord ∧ s.st = 0x8#4 ∧
      ∀ k < 40, dataDuration s.slot k = 1 :=
  ⟨captureRecord_checkAllOnes _, decodeRecord_checkAllOnes _, rfl, by decide⟩

theorem witness_CheckEndsTheRead :
    let s (c : Byte) : State := { at' 0x8#4 Stim.nop with
      csum := c, fb := #v[0x02#8, 0x8C#8, 0x01#8, 0x11#8, 0xA0#8] }
    (s 0xA0#8).csum = (s 0xA0#8).fb[4] ∧ (s 0xA1#8).csum ≠ (s 0xA1#8).fb[4] := by decide

theorem witness_FrameFieldsAgree :
    ∃ t, exec .completeReading (at' 0x8#4 Stim.nop) = .next t := ⟨_, rfl⟩

theorem witness_PhysicalValues :
    ∃ t, exec .completeReading { at' 0x8#4 Stim.nop with fb := Vector.replicate 5 0x80#8 } =
      .next t := ⟨_, rfl⟩

theorem witness_ChecksumLaw :
    let s (c : Byte) : State := { at' 0x8#4 Stim.nop with
      csum := 0xA0#8, fb := #v[0x02#8, 0x8C#8, 0x01#8, 0x11#8, c] }
    (∀ c, (s c).cfg.Usable ∧ (s c).inputs.rst = false ∧ (s c).st = 0x8#4) ∧
    (let u := s 0xA0#8
     u.csum = u.fb[0] + u.fb[1] + u.fb[2] + u.fb[3] ∧
      u.fb[4] = u.fb[0] + u.fb[1] + u.fb[2] + u.fb[3]) ∧
    (let u := s 0x20#8
     u.csum = u.fb[0] + u.fb[1] + u.fb[2] + u.fb[3] ∧
      u.fb[4] = (u.fb[0] + u.fb[1] + u.fb[2] + u.fb[3]) ^^^ (1#8 <<< 7)) :=
  ⟨fun _ => ⟨cfg_usable, rfl, rfl⟩, by decide, by decide⟩

theorem witness_DoneStrobesOnCompletion :
    ∃ t, step (at' 0x8#4 (tick false .low)) = .next t ∧ t.done = true := ⟨_, rfl, rfl⟩

theorem witness_OutcomeChangesOnlyAtStartOrComplete :
    ∃ t, step (at' 0x8#4 (tick false .low)) = .next t ∧
      t.outTag ≠ (at' 0x8#4 (tick false .low)).outTag := ⟨_, rfl, by decide⟩

theorem witness_OutcomeStaysUntilTheNextStart :
    let ts := [tick false .low, tick false .high]
    let s : State := { at' 0x0#4 Stim.nop with stim := ts ++ [Stim.start] }
    s.cfg.Usable ∧ s.st = 0x0#4 ∧ s.stim = ts ++ [Stim.start] ∧ ts ≠ [] ∧
      ∀ i ∈ ts, i.rst = false ∧ i.start = false := by decide

/-- For each register a step without `rst` that changes it, and an idle step without START. -/
theorem witness_RegistersWrittenOnlyByTheirRules :
    let full : State := { at' 0x7#4 (tick false .low) with
      slot := Vector.replicate 82 4, thr := 160, kidx := 7#6, hsum := 125 }
    let ends : State := { at' 0x5#4 (tick false .low) with cnt := 8, pidx := 1#6 }
    (∃ t, step (at' 0x1#4 (tick false .low)) = .next t ∧ t.hold ≠ 0) ∧
    (∃ t, step ends = .next t ∧ t.cnt ≠ ends.cnt ∧ t.pidx ≠ ends.pidx ∧ t.slot ≠ ends.slot ∧
      t.hsum ≠ ends.hsum) ∧
    (∃ t, step full = .next t ∧ t.kidx ≠ full.kidx ∧ t.fb ≠ full.fb ∧ t.csum ≠ full.csum) ∧
    (∃ t, step { full with st := 0x6#4 } = .next t ∧ t.thr ≠ full.thr) ∧
    (at' 0x0#4 (tick false .low)).op = .idle ∧
    (at' 0x0#4 (tick false .low)).inputs.start = false := by
  refine ⟨⟨_, rfl, by decide⟩, ⟨_, rfl, by decide, by decide, by decide, by decide⟩,
    ⟨_, rfl, by decide, by decide, by decide⟩, ⟨_, rfl, by decide⟩, rfl, rfl⟩

theorem witness_ReservedCodesFault :
    let s := at' 0x9#4 (tick false .low)
    s.cfg.Usable ∧ s.inputs.rst = false ∧ 9 ≤ s.st.toNat := by decide

theorem witness_GoodStatesNeverStop :
    (∃ r, step (at' 0xF#4 (tick false .low)) = .fault r) ∧
    (∃ r, step { at' 0x7#4 (tick false .low) with kidx := 40#6 } = .fault r) ∧
    (capLowFull (tick false .high)).Inv := ⟨⟨_, rfl⟩, ⟨_, rfl⟩, inv_capLowFull _⟩

theorem witness_InvariantKeptByEveryStep :
    (∃ t, (capLowFull (tick false .low)).Inv ∧ step (capLowFull (tick false .low)) = .next t) ∧
      (∃ t, (capLowFull (tick false .high)).Inv ∧ step (capLowFull (tick false .high)) = .next t) :=
  ⟨⟨_, inv_capLowFull _, rfl⟩, ⟨_, inv_capLowFull _, rfl⟩⟩

theorem witness_InvariantsHoldAtReset : cfg.Usable := cfg_usable

theorem witness_RangesHoldInEveryReachableState :
    ∃ t, cfg.Usable ∧ run 2 (State.resetWith cfg [Stim.start, Stim.nop] 0) = .next t :=
  ⟨_, cfg_usable, rfl⟩

theorem witness_CaptureRecordKeptByEveryStep :
    (let s := capLowFull (tick false .high)
     ∃ t, s.Inv ∧ s.CaptureRecord ∧ step s = .next t) ∧
    (let s := checkAllOnes (tick false .low)
     s.Inv ∧ s.CaptureRecord ∧ (s.st = 0x6#4 ∨ s.st = 0x7#4 ∨ s.st = 0x8#4)) :=
  ⟨⟨_, inv_capLowFull _, captureRecord_capLowFull _, rfl⟩,
    inv_checkAllOnes _, captureRecord_checkAllOnes _, .inr (.inr rfl)⟩

theorem witness_DecodeRecordKeptByEveryStep :
    let s := capLowFull (tick false .high)
    ∃ t, s.Inv ∧ s.DecodeRecord ∧ step s = .next t :=
  ⟨_, inv_capLowFull _, decodeRecord_capLowFull _, rfl⟩

theorem witness_WidthsSuffice :
    (capLowFull (tick false .low)).Inv ∧ (⟨128000, 1, 1, 1, 1, 0⟩ : Params).ceiling = 128000 :=
  ⟨inv_capLowFull _, rfl⟩

/-- The state after CHECK of V11's capture. -/
def endAllOnes (i : Tick) : State :=
  { checkAllOnes i with st := 0x0#4, outTag := .checksumMismatch, done := true }

theorem inv_endAllOnes (i : Tick) : (endAllOnes i).Inv := by
  constructor
  · constructor <;>
      simp [endAllOnes, checkAllOnes, at', State.resetWith, State.busy, State.padOe,
        State.DataZero, cfg]
  · exact cfg_usable
  · show 0 < max cfg.wakeTicks cfg.startTicks
    decide
  all_goals simp [endAllOnes, checkAllOnes]

theorem witness_BusyShowsNoOutcome :
    ((capLowFull (tick false .low)).Inv ∧ (capLowFull (tick false .low)).busy = true) ∧
      (endAllOnes (tick false .low)).Inv ∧ (endAllOnes (tick false .low)).done = true :=
  ⟨⟨inv_capLowFull _, rfl⟩, inv_endAllOnes _, rfl⟩

/-- START in the tick right after a COMPLETE (R82 (a)). -/
theorem witness_EveryReadEndsInOneOutcome :
    let rest := List.replicate 128 Stim.nop
    let s : State := { at' 0x0#4 Stim.start with
      cfg := ⟨1, 1, 1, 1, 1, 0⟩, stim := Stim.start :: rest, done := true, outTag := .timeout }
    s.cfg.Usable ∧ s.st = 0x0#4 ∧ s.stim = Stim.start :: rest ∧ Stim.start.start = true ∧
      Stim.start.rst = false ∧ Stim.noReset rest = true ∧
      s.cfg.wakeTicks + s.cfg.startTicks + 83 * s.cfg.ceiling + 43 ≤ rest.length :=
  ⟨by decide, rfl, rfl, rfl, rfl, rfl, Nat.le_refl 128⟩

/-- The stimulus of P1. -/
theorem witness_WellTimedFrameIsRead :
    let drive := List.replicate 6 Stim.nop
    let tail := List.replicate 42 Stim.nop
    let stim := Stim.start :: (drive ++
      Stim.frame 0x02#8 0x8C#8 0x01#8 0x11#8 (0x02#8 + 0x8C#8 + 0x01#8 + 0x11#8) 3 8 8 5 2 7 ++
      tail ++ [Stim.nop])
    let s : State := { at' 0x0#4 Stim.start with stim := stim }
    s.cfg.Usable ∧ s.st = 0x0#4 ∧ 3 ≤ s.cfg.ceiling ∧ (1 ≤ 8 ∧ 8 ≤ s.cfg.ceiling) ∧
      (1 ≤ 5 ∧ 5 ≤ s.cfg.ceiling) ∧ 1 ≤ 2 ∧ 2 < 7 ∧ 7 ≤ s.cfg.ceiling ∧
      ¬ (0x02#8 = 0#8 ∧ 0x8C#8 = 0#8 ∧ 0x01#8 = 0#8 ∧ 0x11#8 = 0#8) ∧
      drive.length = s.cfg.wakeTicks + s.cfg.startTicks ∧ Stim.noReset drive = true ∧
      tail.length = 42 ∧ Stim.noReset tail = true ∧ s.stim = stim := by
  refine ⟨cfg_usable, rfl, by decide, by decide, by decide, by decide, by decide, by decide,
    by decide, rfl, rfl, rfl, rfl, rfl⟩

end Sys2Proof.Tests
end

section
/-!
The widths of 00_scope.md R8: `ceilLog2` is the ceiling of the binary logarithm, and what each width holds.
-/

namespace Sys2Proof.Machine

/-- `ceilLog2 n` is the least exponent `k` with `n ≤ 2^k`. -/
theorem ceilLog2_le_iff (n k : Nat) : ceilLog2 n ≤ k ↔ n ≤ 2 ^ k := by
  unfold ceilLog2
  split
  next hsmall =>
    have hpow : 1 ≤ 2 ^ k := Nat.one_le_two_pow
    omega
  next hlarge =>
    have hlog : Nat.log2 (n - 1) < k ↔ n - 1 < 2 ^ k := Nat.log2_lt (by omega)
    omega

theorem lt_two_pow_ceilLog2 {m n : Nat} (h : m < n) : m < 2 ^ ceilLog2 n :=
  h.trans_le ((ceilLog2_le_iff n _).1 le_rfl)

theorem lt_two_pow_wCnt {p : Params} {d : Nat} (h : d ≤ p.ceiling) : d < 2 ^ wCnt p :=
  lt_two_pow_ceilLog2 (Nat.lt_succ_of_le h)

theorem lt_two_pow_wSum {p : Params} {d : Nat} (h : d ≤ 40 * p.ceiling) : d < 2 ^ wSum p :=
  lt_two_pow_ceilLog2 (Nat.lt_succ_of_le h)

theorem lt_two_pow_wHold {p : Params} {d : Nat} (h : d < max p.wakeTicks p.startTicks) :
    d < 2 ^ wHold p :=
  (lt_two_pow_ceilLog2 h).trans_le (Nat.pow_le_pow_right two_pos (le_max_right _ _))

/-- R109: the product by 40 needs two shifts and an addition. -/
theorem forty_mul_eq_shifts (d : Nat) : 40 * d = (d <<< 5) + (d <<< 3) := by
  rw [Nat.shiftLeft_eq, Nat.shiftLeft_eq]
  omega

/-- R8: the widths at the default ceiling. -/
theorem widths_at_default_ceiling {p : Params} (h : p.ceiling = 128000) :
    wCnt p = 17 ∧ wSum p = 23 := by
  unfold wCnt wSum
  rw [h]
  decide

theorem State.Inv.widths {s : State} (hs : s.Inv) :
    s.cnt < 2 ^ wCnt s.cfg ∧ s.hold < 2 ^ wHold s.cfg ∧
    s.hsum < 2 ^ wSum s.cfg ∧ s.thr < 2 ^ wSum s.cfg :=
  ⟨lt_two_pow_wCnt hs.cnt_le, lt_two_pow_wHold hs.hold_lt, lt_two_pow_wSum hs.hsum_le,
    lt_two_pow_wSum hs.thr_le⟩

theorem State.Inv.slot_widths {s : State} (hs : s.Inv) (n : Nat) (h : n < 82) :
    s.slot[n] < 2 ^ wCnt s.cfg ∧ 40 * s.slot[n] < 2 ^ wSum s.cfg :=
  ⟨lt_two_pow_wCnt (hs.slot_le n h), lt_two_pow_wSum (Nat.mul_le_mul_left 40 (hs.slot_le n h))⟩

/-- Settles O45: the ranges of R36 lie within the widths of R8. -/
theorem widthsSuffice : Obligations.WidthsSuffice := by
  refine ⟨fun s hs => ?_, forty_mul_eq_shifts, fun p => widths_at_default_ceiling⟩
  obtain ⟨hcnt, hhold, hhsum, hthr⟩ := hs.widths
  exact ⟨hcnt, hhold, hhsum, hthr, hs.slot_widths⟩

end Sys2Proof.Machine
end

section
/-!
The invariant of 10_state.md R36 clause by clause: every case of a step keeps each clause, so every step
keeps `State.Inv`, and the clauses hold in every state a run from reset reaches. In a clause about some
states only, the cases left to `simp_all` are those that end in another state.
-/

namespace Sys2Proof.Machine

/-! ### Facts of every case -/

/-- R36 (g), in any state: the pad is driven only in WAKE_HIGH and START_LOW. -/
theorem padOe_of_not_busy {s : State} (h : s.busy = false) : s.padOe = false := by
  have hst : s.st = St.idle := by simpa [State.busy] using h
  simp [State.padOe, hst]

variable {s t : State}

/-- R162: no case of a step changes a parameter. -/
theorem StepCase.cfg_eq (h : StepCase s t) : t.cfg = s.cfg := by
  cases h <;> rfl

/-- R37: no step leads to a reserved code. -/
theorem StepCase.st_le (h : StepCase s t) : t.st.toNat ≤ 8 := by
  cases h with
  | count _ hw =>
    rcases waiting_cases hw with ⟨hst, -⟩ | ⟨hst, -⟩ | ⟨hst, -⟩ <;> simp [hst]
  | highPhase => simp only [State.advance_st, highPhaseEnd_st]; split <;> decide
  | pack _ hst => simp only [State.advance_st, packBit_st, hst]; split <;> decide
  | idle _ hst | wakeCount _ hst | lowCount _ hst => simp [hst]
  | _ => simp

/-- A High phase ends in THRESH or CAP_LOW and nowhere else (R95). -/
theorem highPhaseEnd_st_ne {c : StCode} (hthresh : St.thresh ≠ c) (hlow : St.capLow ≠ c) :
    (highPhaseEnd s).st ≠ c := by
  rw [highPhaseEnd_st]
  split
  · exact hthresh
  · exact hlow

/-! ### The hold counter (R36 (c), R17) -/

theorem StepCase.hold_wake (h : StepCase s t) (hs : s.Inv) (ht : t.st = St.wakeHigh) :
    t.hold < t.cfg.wakeTicks := by
  obtain ⟨⟨-, hwake, -⟩, -⟩ := hs.usable
  cases h with
  | start => exact hwake
  | wakeCount _ _ hh => exact hh
  | idle | count => exact hs.hold_wake ht
  | highPhase => exact absurd ht (highPhaseEnd_st_ne (by decide) (by decide))
  | _ => simp_all [ite_eq_iff]

theorem StepCase.hold_start (h : StepCase s t) (hs : s.Inv) (ht : t.st = St.startLow) :
    t.hold < t.cfg.startTicks := by
  obtain ⟨⟨-, -, hstart, -⟩, -⟩ := hs.usable
  cases h with
  | wakeEnd => exact hstart
  | lowCount _ _ hh => exact hh
  | idle | count => exact hs.hold_start ht
  | highPhase => exact absurd ht (highPhaseEnd_st_ne (by decide) (by decide))
  | _ => simp_all [ite_eq_iff]

theorem StepCase.hold_lt (h : StepCase s t) (hs : s.Inv) :
    t.hold < max t.cfg.wakeTicks t.cfg.startTicks := by
  obtain ⟨⟨-, hwake, -⟩, -⟩ := hs.usable
  cases h with
  | wakeCount _ _ hh => exact lt_max_of_lt_left hh
  | lowCount _ _ hh => exact lt_max_of_lt_right hh
  | reset | start | wakeEnd | lowEnd => exact lt_max_of_lt_left hwake
  | _ => exact hs.hold_lt

/-! ### The phase counter and the indexes (R36 (b), (d), (e)) -/

theorem StepCase.cnt_le (h : StepCase s t) (hs : s.Inv) : t.cnt ≤ t.cfg.ceiling := by
  obtain ⟨⟨hceil, -⟩, -⟩ := hs.usable
  cases h with
  | reset | start | lowEnd => exact Nat.zero_le _
  | releaseEnd | lowPhase => exact hceil
  | count _ _ _ hc => exact Nat.lt_of_le_of_ne hs.cnt_le hc
  | highPhase =>
    simp only [State.advance_cnt, highPhaseEnd_cnt]
    split
    · exact hs.cnt_le
    · exact hceil
  | _ => exact hs.cnt_le

theorem StepCase.cnt_pos (h : StepCase s t) (hs : s.Inv)
    (ht : t.st = St.capLow ∨ t.st = St.capHigh) : 1 ≤ t.cnt := by
  cases h with
  | releaseEnd | lowPhase => exact le_rfl
  | count => exact Nat.le_add_left _ _
  | idle | wakeCount | lowCount => exact hs.cnt_pos ht
  | highPhase _ hst =>
    simp only [State.advance_cnt, highPhaseEnd_cnt]
    split
    · exact hs.cnt_pos (.inr hst)
    · exact le_rfl
  | _ => simp_all [ite_eq_iff]

theorem highPhaseEnd_pidx_le (hp : s.pidx.toNat ≤ 40) : (highPhaseEnd s).pidx.toNat ≤ 40 := by
  rw [highPhaseEnd_pidx]
  split
  · exact hp
  · bv_omega

theorem StepCase.pidx_le (h : StepCase s t) (hs : s.Inv) : t.pidx.toNat ≤ 40 := by
  cases h with
  | reset | start | releaseEnd => exact Nat.zero_le _
  | highPhase _ _ _ hp => exact highPhaseEnd_pidx_le hp
  | _ => exact hs.pidx_le

theorem StepCase.kidx_le (h : StepCase s t) (hs : s.Inv) : t.kidx.toNat ≤ 39 := by
  cases h with
  | reset | start | thresh => exact Nat.zero_le _
  | pack _ _ hk =>
    simp only [State.advance_kidx, packBit_kidx]
    split
    · exact hk
    · bv_omega
  | _ => exact hs.kidx_le

/-! ### The sum, the threshold and the slots (R36 (f)) -/

/-- Before the capture the sum is 0, as START left it. -/
theorem StepCase.hsum_early (h : StepCase s t) (hs : s.Inv)
    (ht : t.st = St.wakeHigh ∨ t.st = St.startLow ∨ t.st = St.releaseWait) : t.hsum = 0 := by
  cases h with
  | reset | start => rfl
  | wakeEnd _ hst => exact hs.hsum_early (.inl hst)
  | lowEnd _ hst => exact hs.hsum_early (.inr (.inl hst))
  | idle | wakeCount | lowCount | count => exact hs.hsum_early ht
  | highPhase =>
    rcases ht with ht | ht | ht <;>
      exact absurd ht (highPhaseEnd_st_ne (by decide) (by decide))
  | _ => simp_all [ite_eq_iff]

/-- The sum takes the counted duration, not the slot it was stored in. -/
theorem highPhaseEnd_storeSlot_hsum (n v : Nat) (s : State) :
    (highPhaseEnd (storeSlot n v s)).hsum = (highPhaseEnd s).hsum := rfl

/-- The end of the High phase of pair `i` makes the bound of `i - 1` full durations one of `i`. -/
theorem highPhaseEnd_hsum_le (hs : s.Inv) (hst : s.st = St.capHigh) :
    (highPhaseEnd s).hsum ≤ s.pidx.toNat * s.cfg.ceiling := by
  have hsum := hs.hsum_capture (.inr hst)
  have hcnt := hs.cnt_le
  rw [highPhaseEnd_hsum]
  split
  case isTrue hpos =>
    calc s.hsum + s.cnt ≤ (s.pidx.toNat - 1) * s.cfg.ceiling + s.cfg.ceiling := by omega
      _ = (s.pidx.toNat - 1 + 1) * s.cfg.ceiling := by rw [Nat.succ_mul]
      _ = s.pidx.toNat * s.cfg.ceiling := by rw [Nat.sub_add_cancel hpos]
  case isFalse => exact hsum.trans (Nat.mul_le_mul_right _ (Nat.sub_le _ _))

theorem StepCase.hsum_capture (h : StepCase s t) (hs : s.Inv)
    (ht : t.st = St.capLow ∨ t.st = St.capHigh) :
    t.hsum ≤ (t.pidx.toNat - 1) * t.cfg.ceiling := by
  cases h with
  | releaseEnd _ hst =>
    have hsum : s.hsum = 0 := hs.hsum_early (.inr (.inr hst))
    simp [hsum]
  | lowPhase _ hst => exact hs.hsum_capture (.inl hst)
  | idle | wakeCount | lowCount | count => exact hs.hsum_capture ht
  | highPhase _ hst _ hp =>
    have hlast : s.pidx ≠ 40#6 := fun hlast => by simp [hlast] at ht
    have hpidx : (highPhaseEnd (storeSlot (highSlot s.pidx) s.cnt s)).advance.pidx = s.pidx + 1#6 :=
      if_neg hlast
    have hnext : (s.pidx + 1#6).toNat - 1 = s.pidx.toNat := by bv_omega
    rw [hpidx, hnext, State.advance_hsum, highPhaseEnd_storeSlot_hsum]
    exact highPhaseEnd_hsum_le hs hst
  | _ => simp_all [ite_eq_iff]

theorem StepCase.hsum_le (h : StepCase s t) (hs : s.Inv) : t.hsum ≤ 40 * t.cfg.ceiling := by
  cases h with
  | reset | start => exact Nat.zero_le _
  | highPhase _ hst _ hp =>
    exact (highPhaseEnd_hsum_le hs hst).trans (Nat.mul_le_mul_right _ hp)
  | _ => exact hs.hsum_le

theorem StepCase.thr_le (h : StepCase s t) (hs : s.Inv) : t.thr ≤ 40 * t.cfg.ceiling := by
  cases h with
  | reset | start => exact Nat.zero_le _
  | thresh => exact hs.hsum_le
  | _ => exact hs.thr_le

/-- Storing the current count keeps the slots in range. -/
theorem storeSlot_cnt_slot_le (hs : s.Inv) (i n : Nat) (h : n < 82) :
    (storeSlot i s.cnt s).slot[n] ≤ s.cfg.ceiling := by
  simp only [storeSlot_slot, slot_set_getElem]
  split
  · exact hs.cnt_le
  · exact hs.slot_le n h

theorem StepCase.slot_le (h : StepCase s t) (hs : s.Inv) (n : Nat) (hn : n < 82) :
    t.slot[n] ≤ t.cfg.ceiling := by
  cases h with
  | reset | start => simp
  | lowPhase | highPhase => exact storeSlot_cnt_slot_le hs _ n hn
  | _ => exact hs.slot_le n hn

/-! ### The outcome registers (R36 (h), R31, 20_memory.md R53) -/

/-- COMPLETE with another tag than READING leaves the data outputs of a busy engine at 0. -/
theorem complete_dataZero {tag : OutTag} (hs : s.Inv) (hbusy : s.st ≠ St.idle)
    (htag : tag ≠ .reading) : (complete tag s).DataZero := by
  rw [complete_of_ne_reading htag]
  exact hs.no_reading_no_data (by simp [(hs.busy_none hbusy).1])

theorem ne_idle_of_waiting (h : s.waiting = true) : s.st ≠ St.idle := by
  rcases waiting_cases h with ⟨hst, -⟩ | ⟨hst, -⟩ | ⟨hst, -⟩ <;> simp [hst]

theorem StepCase.no_reading_no_data (h : StepCase s t) (hs : s.Inv) (ht : t.outTag ≠ .reading) :
    t.DataZero := by
  cases h with
  | reset | start => exact ⟨rfl, rfl, rfl, rfl⟩
  | timeout _ hw => exact complete_dataZero hs (ne_idle_of_waiting hw) ht
  | reading => exact absurd rfl ht
  | mismatch _ hst => exact complete_dataZero hs (by simp [hst]) ht
  | _ => exact hs.no_reading_no_data ht

theorem StepCase.busy_none (h : StepCase s t) (hs : s.Inv) (ht : t.st ≠ St.idle) :
    t.outTag = .none ∧ t.done = false := by
  cases h with
  | reset | timeout | reading | mismatch => exact absurd rfl ht
  | start => exact ⟨rfl, rfl⟩
  | idle _ hst => exact absurd hst ht
  | count _ hw => exact ⟨(hs.busy_none (ne_idle_of_waiting hw)).1, rfl⟩
  | wakeCount _ hst | wakeEnd _ hst | lowCount _ hst | lowEnd _ hst | releaseEnd _ hst
  | lowPhase _ hst | highPhase _ hst | thresh _ hst | pack _ hst =>
    exact ⟨(hs.busy_none (by simp [hst])).1, rfl⟩

/-- The strobe is 1 only after COMPLETE, which never writes NONE. -/
theorem StepCase.done_outcome (h : StepCase s t) (ht : t.done = true) : t.outTag ≠ .none := by
  cases h with
  | timeout | reading | mismatch => simp
  | _ => cases ht

/-! ### The invariant -/

theorem StepCase.inv (h : StepCase s t) (hs : s.Inv) : t.Inv where
  st_le := h.st_le
  cnt_le := h.cnt_le hs
  hold_wake := h.hold_wake hs
  hold_start := h.hold_start hs
  cnt_pos := h.cnt_pos hs
  pidx_le := h.pidx_le hs
  kidx_le := h.kidx_le hs
  hsum_le := h.hsum_le hs
  thr_le := h.thr_le hs
  slot_le := h.slot_le hs
  idle_released := padOe_of_not_busy
  no_reading_no_data := h.no_reading_no_data hs
  usable := h.cfg_eq ▸ hs.usable
  hold_lt := h.hold_lt hs
  hsum_early := h.hsum_early hs
  hsum_capture := h.hsum_capture hs
  busy_none := h.busy_none hs
  done_outcome := h.done_outcome

/-- Settles O40: each clause is kept by each case of a step. -/
theorem invariantKeptByEveryStep : Obligations.InvariantKeptByEveryStep :=
  fun _ _ hs hstep => (step_cases hstep).2.inv hs

/-! ### Reset and runs (R35, R36) -/

theorem inv_resetWith {p : Params} (hp : p.Usable) (stim : List Tick) (tick : Nat) :
    (State.resetWith p stim tick).Inv := by
  have ⟨⟨_, hwake, _⟩, _⟩ := hp
  constructor
  case usable => exact hp
  case hold_lt => exact lt_max_of_lt_left hwake
  case toRangesHold =>
    constructor
    case idle_released => exact padOe_of_not_busy
    all_goals simp [State.resetWith, State.DataZero]
  all_goals simp [State.resetWith]

/-- No read has begun, so nothing is claimed to be captured. -/
theorem captureRecord_resetWith (p : Params) (stim : List Tick) (tick : Nat) :
    (State.resetWith p stim tick).CaptureRecord := by
  constructor <;> simp [State.resetWith]

/-- No read has begun, so nothing is claimed to be packed. -/
theorem decodeRecord_resetWith (p : Params) (stim : List Tick) (tick : Nat) :
    (State.resetWith p stim tick).DecodeRecord := by
  constructor <;> simp [State.resetWith]

/-- The parameters of this hardware are usable, whatever the OPEN ones are. -/
theorem config_params_usable : Config.params.Usable := by
  simp [Config.params, Params.Usable, Params.Legal, Params.SoleDriver]

/-- Settles O41: the reset state is idle, with every register 0. -/
theorem invariantsHoldAtReset : Obligations.InvariantsHoldAtReset :=
  ⟨fun p stim tick hp => ⟨inv_resetWith hp stim tick, captureRecord_resetWith p stim tick,
    decodeRecord_resetWith p stim tick⟩, inv_resetWith config_params_usable [] 0⟩

/-- What every step keeps, every run keeps. -/
theorem run_keeps {P : State → Prop} (hstep : ∀ s t, P s → step s = .next t → P t) {n : Nat} :
    ∀ {s t : State}, P s → run n s = .next t → P t := by
  induction n with
  | zero => rintro s t hs ⟨⟩; exact hs
  | succ n ih =>
    intro s t hs hrun
    cases hu : step s with
    | next u => exact ih (hstep s u hs hu) (run_succ_of_next n hu ▸ hrun)
    | fault r => simp [run, hu] at hrun
    | refused r => simp [run, hu] at hrun

/-- Settles O42: the invariant holds at reset, every step keeps it, and it contains R36. -/
theorem rangesHoldInEveryReachableState : Obligations.RangesHoldInEveryReachableState :=
  fun _ stim tick _ _ hp hrun =>
    (run_keeps invariantKeptByEveryStep (inv_resetWith hp stim tick) hrun).toRangesHold

end Sys2Proof.Machine
end

section
/-!
The registers and flags of 10_state.md one rule at a time: the strobe `done` (R31), the pad and `busy` (R32,
R33), which operation writes which working register (R17 to R25), the reserved codes (R37), what a step
fetches (R13) and the reset table (R35).
-/

namespace Sys2Proof.Machine

variable {s t : State}

/-! ### The strobe (R31) -/

/-- COMPLETE is the only way a busy engine comes to IDLE without `rst`, and the only writer of a 1. -/
theorem StepCase.done_iff (h : StepCase s t) :
    t.done = true ↔ s.inputs.rst = false ∧ s.st ≠ St.idle ∧ t.st = St.idle := by
  cases h with
  | reset hr => simp [hr]
  | idle _ hst | start _ hst => simp [hst]
  | timeout hr hw => simp [hr, ne_idle_of_waiting hw]
  | reading hr hst | mismatch hr hst => simp [hr, hst]
  | count _ hw => simp [ne_idle_of_waiting hw]
  | highPhase =>
    exact iff_of_false Bool.false_ne_true
      fun ⟨_, _, hst⟩ => highPhaseEnd_st_ne (by decide) (by decide) hst
  | _ => simp_all [ite_eq_iff]

/-- Settles O34: COMPLETE is the one case that sets the strobe and the one that ends a read. -/
theorem doneStrobesOnCompletion : Obligations.DoneStrobesOnCompletion :=
  fun _ _ hstep => (step_cases hstep).2.done_iff

/-! ### The pad and `busy` (R32, R33) -/

/-- Settles O11: the pad outputs and `busy` test `st` alone. -/
theorem padAndBusyFollowTheState : Obligations.PadAndBusyFollowTheState := by
  intro s
  refine ⟨fun hwake => ?_, fun hstart => ?_, fun hwake hstart => ?_, ?_⟩
  · simp [State.padOe, State.padOut, hwake]
  · simp [State.padOe, State.padOut, hstart]
  · simp [State.padOe, State.padOut, hwake, hstart]
  · simp [State.busy]

/-! ### The writers of each working register (R17 to R25) -/

theorem op_of_st {c : StCode} (hr : s.inputs.rst = false) (hst : s.st = c) : s.op = decodeState c :=
  hst ▸ op_of_not_rst hr

/-- Settles O37. In each case of a step the operation is known, and a register either is not written by
the case or has that operation in its list. -/
theorem registersWrittenOnlyByTheirRules : Obligations.RegistersWrittenOnlyByTheirRules := by
  intro s t hstep hr
  cases (step_cases hstep).2 with
  | reset hr' => simp [hr] at hr'
  | idle _ hst => simp [op_of_st hr hst, decodeState, stateTable, idleNoCommand, State.advance]
  | start _ hst hs => simp [op_of_st hr hst, decodeState, stateTable, hs]
  | timeout _ hw | count _ hw =>
    rcases waiting_cases hw with ⟨hst, -⟩ | ⟨hst, -⟩ | ⟨hst, -⟩ <;>
      simp [op_of_st hr hst, decodeState, stateTable]
  | wakeCount _ hst | wakeEnd _ hst | lowCount _ hst | lowEnd _ hst | releaseEnd _ hst
  | lowPhase _ hst | highPhase _ hst | thresh _ hst | pack _ hst | reading _ hst
  | mismatch _ hst => simp [op_of_st hr hst, decodeState, stateTable]

/-! ### The reserved codes (R37) -/

theorem step_reserved (hc : s.cfg.Usable) (hr : s.inputs.rst = false) (hst : 9 ≤ s.st.toNat) :
    step s = .fault (.reservedState s.st) := by
  rw [step_eq hc, op_of_not_rst hr, exec_reserved hst]
  rfl

/-- Settles O38: a reserved code stops the step, and no case of a step ends in one. -/
theorem reservedCodesFault : Obligations.ReservedCodesFault :=
  ⟨fun _ => step_reserved, fun _ => ⟨rfl, rfl, rfl, rfl, rfl, rfl, rfl⟩,
    fun _ _ hstep => (step_cases hstep).2.st_le⟩

/-! ### Fetch and decode (R13) -/

/-- A state code as a byte decodes to the operation it selects. -/
theorem decode_fsmState_setWidth (c : StCode) (rest : List Byte) :
    decode .fsmState (c.setWidth 8 :: rest) = .ok (decodeState c, rest) := by
  have hbits : (c.setWidth 8).toNat < 2 ^ Format.fsmState.width := by
    rw [BitVec.toNat_setWidth]
    exact lt_of_le_of_lt (Nat.mod_le _ _) c.isLt
  have hback : (c.setWidth 8).setWidth 4 = c := by simp
  simp only [decode, decodeByte, if_pos hbits, hback]

/-- What a step fetches is the code of its operation. -/
theorem decode_fetch (s : State) : decode s.fetch.1 s.fetch.2 = .ok (s.op, []) := by
  cases hr : s.inputs.rst with
  | true => simp only [State.fetch, State.op, hr, if_true]; rfl
  | false =>
    simp only [State.fetch, State.op, hr, Bool.false_eq_true, if_false]
    exact decode_fsmState_setWidth s.st []

theorem instr_wf (i : Instr) : i.wf = true := by
  cases i <;> rfl

/-- Settles O3: what is fetched decodes to `State.op`, which the step runs. -/
theorem stepRunsTheDecodedInstruction : Obligations.StepRunsTheDecodedInstruction := by
  refine ⟨fun s => ⟨s.op, decode_fetch s, instr_wf s.op, rfl⟩, fun s i hc _ hdec => ?_⟩
  rw [decode_fetch] at hdec
  cases hdec
  exact step_eq hc

/-! ### The reset table (R35) -/

/-- Settles O7: each entry of the table, with the buffers entry by entry. -/
theorem resetStateIsTheResetTable : Obligations.ResetStateIsTheResetTable := by
  have hslot : ∀ n (h : n < 82), State.reset.slot[n] = 0 := by simp [State.reset, State.resetWith]
  have hfb : ∀ j (h : j < 5), State.reset.fb[j] = 0#8 := by simp [State.reset, State.resetWith]
  exact ⟨rfl, rfl, rfl, rfl, rfl, hslot, rfl, rfl, hfb, rfl, rfl, rfl, rfl, rfl, rfl, rfl, rfl, rfl,
    rfl, rfl, config_params_usable⟩

end Sys2Proof.Machine
end

section
/-!
The outcome registers of 20_memory.md as the host reads them: which steps may change them (R49), and what
the ports show of them during a read and after it (R52, R53; 30_encoding.md R58, R69).
-/

namespace Sys2Proof.Machine

variable {s t : State}

/-! ### Which steps change the outcome (R49) -/

/-- The outcome registers but the strobe are the same in both states. -/
def State.SameOutcome (s t : State) : Prop :=
  t.outTag = s.outTag ∧ t.outHum = s.outHum ∧ t.outTsign = s.outTsign ∧ t.outTmag = s.outTmag ∧
    t.outFrame = s.outFrame

/-- The cases not excluded here are those between START and COMPLETE, and IDLE without a command. -/
theorem StepCase.sameOutcome (h : StepCase s t) (hr : s.inputs.rst = false)
    (hstart : s.st = St.idle → s.inputs.start = false) (hend : s.st ≠ St.idle → t.st ≠ St.idle) :
    s.SameOutcome t := by
  cases h with
  | reset hr' => simp [hr] at hr'
  | start _ hst hs => simp [hstart hst] at hs
  | timeout _ hw => exact absurd rfl (hend (ne_idle_of_waiting hw))
  | reading _ hst | mismatch _ hst => exact absurd rfl (hend (by simp [hst]))
  | _ => exact ⟨rfl, rfl, rfl, rfl, rfl⟩

/-- Settles O35: a step that is none of the three keeps the outcome. -/
theorem outcomeChangesOnlyAtStartOrComplete : Obligations.OutcomeChangesOnlyAtStartOrComplete := by
  intro s t hstep hchange
  by_contra hnone
  obtain ⟨hr, hstart, hend⟩ : s.inputs.rst = false ∧ (s.st = St.idle → s.inputs.start = false) ∧
      (s.st ≠ St.idle → t.st ≠ St.idle) := by simpa using hnone
  obtain ⟨htag, hhum, htsign, htmag, hframe⟩ := (step_cases hstep).2.sameOutcome hr hstart hend
  simp [htag, hhum, htsign, htmag, hframe] at hchange

/-! ### The ports (R52, R53, R58, R69) -/

/-- A port shows the code of a tag exactly when the register holds that tag. -/
theorem ports_outTag_eq_iff (s : State) (tag : OutTag) :
    s.ports.outTag = tag.code ↔ s.outTag = tag :=
  outTag_code_inj s.outTag tag

/-- R53: a read in progress has cleared the strobe and the tag, so the data outputs are 0 too. -/
theorem State.Inv.ports_of_busy (hs : s.Inv) (hbusy : s.busy = true) :
    s.ports = { padOe := s.padOe, padOut := s.padOut, busy := true, done := false,
                outTag := 0b00#2, outHum := 0#16, outTsign := false, outTmag := 0#15,
                outFrame := 0#40 } := by
  obtain ⟨htag, hdone⟩ := hs.busy_none (by simpa [State.busy] using hbusy)
  obtain ⟨hhum, htsign, htmag, hframe⟩ := hs.no_reading_no_data (by simp [htag])
  simp [State.ports, hbusy, htag, hdone, hhum, htsign, htmag, hframe, OutTag.code]

/-- The strobe is 0 in every busy state, so a completed read is seen with `busy = 0`. -/
theorem State.Inv.not_busy_of_done (hs : s.Inv) (hdone : s.done = true) : s.busy = false := by
  by_contra hbusy
  obtain ⟨-, hclear⟩ := hs.busy_none (by simpa [State.busy] using hbusy)
  simp [hdone] at hclear

/-- Settles O46: the ports copy the registers, the tag codes are distinct, and the invariant relates the
strobe, the tag and the data outputs to `busy`. -/
theorem busyShowsNoOutcome : Obligations.BusyShowsNoOutcome := by
  refine ⟨fun s => ?_, fun _ hs => hs.ports_of_busy, fun s hs hdone => ?_⟩
  · exact ⟨rfl, rfl, rfl, rfl, rfl, rfl, rfl, rfl, ports_outTag_eq_iff s .none,
      ports_outTag_eq_iff s .reading, ports_outTag_eq_iff s .timeout,
      ports_outTag_eq_iff s .checksumMismatch⟩
  · exact ⟨hs.not_busy_of_done hdone,
      fun hnone => hs.done_outcome hdone ((ports_outTag_eq_iff s .none).1 hnone)⟩

end Sys2Proof.Machine
end

section
/-!
The encoding of 30_encoding.md: the decoder and the encoder are inverse on the codes of each format (R66 to
R69), a command acts only in IDLE without `rst` (R68), and the data outputs are the fields of the frame (R61
to R63, 20_memory.md R45, R46).
-/

namespace Sys2Proof.Machine

/-! ### One code byte -/

/-- A byte whose bits above the field are 0 is the field read from it. -/
theorem setWidth_setWidth_byte {n : Nat} {b : Byte} (h : b.toNat < 2 ^ n) :
    (b.setWidth n).setWidth 8 = b := by
  apply BitVec.eq_of_toNat_eq
  rw [BitVec.toNat_setWidth, BitVec.toNat_setWidth, Nat.mod_eq_of_lt h, Nat.mod_eq_of_lt b.isLt]

theorem decodeState_code (c : StCode) :
    (decodeState c).format = .fsmState ∧ encodeByte (decodeState c) = c.setWidth 8 := by
  revert c
  decide

theorem decodeCmd_code (c : BitVec 1) :
    (decodeCmd c).format = .hostCmd ∧ encodeByte (decodeCmd c) = c.setWidth 8 := by
  revert c
  decide

theorem decodeTag_code (c : BitVec 2) :
    (decodeTag c).format = .outcomeTag ∧ encodeByte (decodeTag c) = c.setWidth 8 := by
  revert c
  decide

theorem decodeByte_encodeByte (i : Instr) : decodeByte i.format (encodeByte i) = .ok i := by
  cases i <;> rfl

/-- What the decoder reads from a byte has the byte as its code and the port as its format. -/
theorem encodeByte_of_decodeByte {f : Format} {b : Byte} {i : Instr} (h : decodeByte f b = .ok i) :
    i.format = f ∧ encodeByte i = b := by
  unfold decodeByte at h
  split at h
  next hbits =>
    have hb := setWidth_setWidth_byte hbits
    cases f with
    | fsmState => cases h; exact (decodeState_code _).imp_right (·.trans hb)
    | hostCmd => cases h; exact (decodeCmd_code _).imp_right (·.trans hb)
    | outcomeTag => cases h; exact (decodeTag_code _).imp_right (·.trans hb)
    | resetInput =>
      obtain ⟨hone, hrst⟩ : b = 1#8 ∧ Instr.rst = i := by
        simpa [ite_eq_iff] using h
      exact hrst ▸ ⟨rfl, hone.symm⟩
  next => cases h

theorem decodeByte_eq_ok {f : Format} {b : Byte} {i : Instr} :
    decodeByte f b = .ok i ↔ i.format = f ∧ encodeByte i = b := by
  refine ⟨encodeByte_of_decodeByte, ?_⟩
  rintro ⟨rfl, rfl⟩
  exact decodeByte_encodeByte i

/-- The two tests of `codeWF` are the decoder's only two grounds to refuse a byte. -/
theorem codeWF_iff_decodeByte (f : Format) (b : Byte) :
    codeWF f b = true ↔ ∃ i, decodeByte f b = .ok i := by
  by_cases hbits : b.toNat < 2 ^ f.width
  · cases f with
    | resetInput =>
      by_cases hone : b = 1#8
      · exact hone ▸ iff_of_true rfl ⟨.rst, rfl⟩
      · simp [codeWF, decodeByte, hbits, hone]
    | _ => simp [codeWF, decodeByte, hbits]
  · simp [codeWF, decodeByte, hbits]

/-! ### Decoder and encoder (R66 to R69, R151) -/

theorem decode_cons_eq_ok {f : Format} {b : Byte} {bytes rest : List Byte} {i : Instr} :
    decode f (b :: bytes) = .ok (i, rest) ↔ decodeByte f b = .ok i ∧ bytes = rest := by
  cases h : decodeByte f b <;> simp [decode, h]

/-- The decoder accepts the code of an instruction, in the instruction's own format, and nothing else. -/
theorem decode_eq_ok {f : Format} {bytes rest : List Byte} {i : Instr} :
    decode f bytes = .ok (i, rest) ↔ i.format = f ∧ bytes = encode i ++ rest := by
  cases bytes with
  | nil => simp [decode, encode]
  | cons b bytes => simp [decode_cons_eq_ok, decodeByte_eq_ok, encode, and_assoc, eq_comm (a := b)]

theorem decode_encode (i : Instr) (rest : List Byte) :
    decode i.format (encode i ++ rest) = .ok (i, rest) :=
  decode_eq_ok.2 ⟨rfl, rfl⟩

/-- Settles O1: `decode_eq_ok` both ways, and the decoder's two grounds of refusal. -/
theorem decodeAndEncodeAgree : Obligations.DecodeAndEncodeAgree :=
  ⟨fun i rest _ => decode_encode i rest, fun _ _ _ _ => decode_eq_ok.1, codeWF_iff_decodeByte⟩

/-- Settles O2: each byte written out is the code of its instruction. -/
theorem codesOfTheTables : Obligations.CodesOfTheTables :=
  ⟨decode_encode .idle [], decode_encode .wakeHigh [], decode_encode .startLow [],
    decode_encode .releaseWait [], decode_encode .capLow [], decode_encode .capHigh [],
    decode_encode .thresh [], decode_encode .pack [], decode_encode .check [],
    decode_encode .reserved9 [], decode_encode .reservedA [], decode_encode .reservedB [],
    decode_encode .reservedC [], decode_encode .reservedD [], decode_encode .reservedE [],
    decode_encode .reservedF [], decode_encode .start [], decode_encode .nocmd [],
    decode_encode .rst [], decode_encode .tagNone [], decode_encode .completeReading [],
    decode_encode .completeTimeout [], decode_encode .completeMismatch []⟩

/-! ### The host command (R68; 40_handshake.md R81, R82, R85) -/

theorem commandTaken_iff {s : State} :
    commandTaken s = true ↔ s.st = St.idle ∧ s.inputs.rst = false := by
  simp [commandTaken]

theorem commandTaken_eq_false_iff {s : State} :
    commandTaken s = false ↔ s.st ≠ St.idle ∨ s.inputs.rst = true := by
  simp [commandTaken, imp_iff_not_or]

theorem exec_start_of_taken {s : State} (h : commandTaken s = true) :
    exec .start s = .next (acceptStart s) := by
  simp [exec, execStart, h]

theorem exec_nocmd_of_taken {s : State} (h : commandTaken s = true) :
    exec .nocmd s = .next (idleNoCommand s) := by
  simp [exec, execNocmd, h]

theorem exec_command_of_not_taken {s : State} (h : commandTaken s = false) :
    exec .start s = .next s ∧ exec .nocmd s = .next s := by
  simp [exec, execStart, execNocmd, h]

/-- Settles O9: `commandTaken` decides whether a command acts. -/
theorem commandsTakenOnlyInIdle : Obligations.CommandsTakenOnlyInIdle :=
  ⟨fun _ hst hr => exec_start_of_taken (commandTaken_iff.2 ⟨hst, hr⟩),
    fun _ hst hr => exec_nocmd_of_taken (commandTaken_iff.2 ⟨hst, hr⟩),
    fun _ h => exec_command_of_not_taken (commandTaken_eq_false_iff.2 h)⟩

/-! ### The fields of the frame (R62, R63; 20_memory.md R45, R46) -/

theorem frameField_toNat (fb : Vector Byte 5) :
    (frameField fb).toNat =
      (((fb[0].toNat * 256 + fb[1].toNat) * 256 + fb[2].toNat) * 256 + fb[3].toNat) * 256 +
        fb[4].toNat := by
  have hbyte : ∀ (a : Nat) (b : Byte), a <<< 8 ||| b.toNat = a * 256 + b.toNat := fun a b => by
    rw [← Nat.shiftLeft_add_eq_or_of_lt b.isLt, Nat.shiftLeft_eq]
  simp only [frameField, BitVec.toNat_append, hbyte]

theorem humField_toNat (fb : Vector Byte 5) :
    (humField fb).toNat = fb[0].toNat * 256 + fb[1].toNat := by
  have h0 := fb[0].isLt
  have h1 := fb[1].isLt
  simp only [humField, BitVec.toNat_add, BitVec.toNat_mul, BitVec.toNat_setWidth, BitVec.toNat_ofNat]
  omega

theorem tmagField_toNat (fb : Vector Byte 5) :
    (tmagField fb).toNat = fb[2].toNat % 128 * 256 + fb[3].toNat := by
  have h3 := fb[3].isLt
  have hmask : (fb[2] &&& 0x7F#8).toNat = fb[2].toNat % 128 :=
    Nat.and_two_pow_sub_one_eq_mod fb[2].toNat 7
  simp only [tmagField, BitVec.toNat_add, BitVec.toNat_mul, BitVec.toNat_setWidth, hmask,
    BitVec.toNat_ofNat]
  omega

theorem frameField_hum (fb : Vector Byte 5) :
    (frameField fb).extractLsb' 24 16 = humField fb := by
  apply BitVec.eq_of_toNat_eq
  rw [BitVec.extractLsb'_toNat, frameField_toNat, humField_toNat, Nat.shiftRight_eq_div_pow]
  omega

theorem frameField_tmag (fb : Vector Byte 5) :
    (frameField fb).extractLsb' 8 15 = tmagField fb := by
  apply BitVec.eq_of_toNat_eq
  rw [BitVec.extractLsb'_toNat, frameField_toNat, tmagField_toNat, Nat.shiftRight_eq_div_pow]
  omega

/-- Frame byte `j` stands at bit `8 * (4 - j)` of the frame. -/
theorem frameField_byte (fb : Vector Byte 5) (j : Nat) (hj : j < 5) :
    (frameField fb).extractLsb' (8 * (4 - j)) 8 = fb[j] := by
  apply BitVec.eq_of_toNat_eq
  rw [BitVec.extractLsb'_toNat, frameField_toNat, Nat.shiftRight_eq_div_pow]
  interval_cases j <;> omega

theorem frameField_getLsbD (fb : Vector Byte 5) (j n : Nat) (hj : j < 5) (hn : n < 8) :
    (frameField fb).getLsbD (8 * (4 - j) + n) = fb[j].getLsbD n := by
  rw [← frameField_byte fb j hj, BitVec.getLsbD_extractLsb']
  simp [hn]

/-- R45, R46: the data bits of the frame are those of its bytes, most significant first. -/
theorem frameField_dataBit (fb : Vector Byte 5) (k : Nat) (hk : k < 40) :
    (frameField fb).getLsbD (39 - k) = (fb[k / 8]?.getD 0#8).getLsbD (7 - k % 8) := by
  have hj : k / 8 < 5 := by omega
  have hpos : 39 - k = 8 * (4 - k / 8) + (7 - k % 8) := by omega
  rw [hpos, frameField_getLsbD fb (k / 8) (7 - k % 8) hj (by omega), Vector.getElem?_eq_getElem hj,
    Option.getD_some]

/-- Settles O31: a READING writes the four fields of the frame bytes and the frame itself. -/
theorem frameFieldsAgree : Obligations.FrameFieldsAgree := by
  intro s t hexec
  obtain rfl : complete .reading s = t := by cases hexec; rfl
  exact ⟨frameField_hum s.fb, frameField_getLsbD s.fb 2 7 (by decide) (by decide),
    frameField_tmag s.fb, frameField_byte s.fb 4 (by decide), frameField_dataBit s.fb⟩

end Sys2Proof.Machine
end

section
/-!
One tick of the handshake of 40_handshake.md: IDLE with and without START (R81, R82), a tick of a hold phase
(R83, R84), and START ignored by a busy engine (R85).
-/

namespace Sys2Proof.Machine

variable {s t : State}

/-! ### IDLE (R81, R82) -/

theorem exec_idle_of_start (h : s.inputs.start = true) : exec .idle s = .next (acceptStart s) := by
  simp [exec, execIdle, h]

theorem exec_idle_of_no_start (h : s.inputs.start = false) :
    exec .idle s = .next (idleNoCommand s) := by
  simp [exec, execIdle, h]

/-- Settles O8: the two values of `start` select the two meanings of IDLE. -/
theorem idleTakesStart : Obligations.IdleTakesStart :=
  ⟨fun _ => exec_idle_of_no_start, fun _ => exec_idle_of_start⟩

/-- R82: an accepted START leaves the reset table but for the state code. -/
theorem acceptStart_eq_resetWith (s : State) :
    acceptStart s = { State.resetWith s.cfg s.stim s.tick with st := St.wakeHigh } := rfl

/-- In a usable configuration without `rst`, a step applies what the operation of `st` does. -/
theorem step_of_exec {c : StCode} {u : State} (hc : s.cfg.Usable) (hr : s.inputs.rst = false)
    (hst : s.st = c) (hexec : exec (decodeState c) s = .next u) : step s = .next u.advance :=
  step_eq_next.2 ⟨hc, u, op_of_st hr hst ▸ hexec, rfl⟩

theorem step_idle_of_start (hc : s.cfg.Usable) (hst : s.st = St.idle) (hr : s.inputs.rst = false)
    (hs : s.inputs.start = true) : step s = .next (acceptStart s).advance :=
  step_of_exec hc hr hst (exec_idle_of_start hs)

theorem inputs_congr (hstim : t.stim = s.stim) (htick : t.tick = s.tick) : t.inputs = s.inputs := by
  simp only [State.inputs, hstim, htick]

/-- Settles O14: `acceptStart` reads only the configuration, the inputs and the tick counter. -/
theorem readForgetsThePast : Obligations.ReadForgetsThePast := by
  intro s s' hc hcfg hstim htick hst hst' hs hr
  have hin : s'.inputs = s.inputs := inputs_congr hstim htick
  have hsame : acceptStart s' = acceptStart s := by
    simp only [acceptStart_eq_resetWith, hcfg, hstim, htick]
  have hstep : step s = .next (acceptStart s).advance := step_idle_of_start hc hst hr hs
  have hstep' : step s' = .next (acceptStart s').advance :=
    step_idle_of_start (hcfg ▸ hc) hst' (hin ▸ hr) (hin ▸ hs)
  exact ⟨by rw [hstep', hsame, hstep], _, hstep, rfl⟩

/-! ### The hold phases (R83, R84) -/

theorem holdTick_of_le {len : Nat} (finish : State → State) (h : len ≤ s.hold + 1) :
    holdTick len finish s = finish s :=
  if_pos h

theorem holdTick_of_lt {len : Nat} (finish : State → State) (h : s.hold + 1 < len) :
    holdTick len finish s = holdCount s :=
  if_neg (Nat.not_le.2 h)

theorem exec_wakeHigh (s : State) :
    exec .wakeHigh s = .next (holdTick s.cfg.wakeTicks wakeEnd s) := rfl

theorem exec_startLow (s : State) :
    exec .startLow s = .next (holdTick s.cfg.startTicks startPulseEnd s) := rfl

/-- Settles O10: `holdTick` counts below the length and leaves the phase at it. -/
theorem holdPhasesCountTicks : Obligations.HoldPhasesCountTicks := by
  refine ⟨fun s h => ?_, fun s h => ?_, fun s h => ?_, fun s h => ?_⟩
  · rw [exec_wakeHigh, holdTick_of_le wakeEnd h]; rfl
  · rw [exec_wakeHigh, holdTick_of_lt wakeEnd h]; rfl
  · rw [exec_startLow, holdTick_of_le startPulseEnd h]; rfl
  · rw [exec_startLow, holdTick_of_lt startPulseEnd h]; rfl

/-! ### START while busy (R85) -/

theorem holdTick_withTick_congr {i j : Tick} {len : Nat} {finish : State → State}
    (hfinish : (finish (s.withTick i)).advance = (finish (s.withTick j)).advance) :
    (holdTick len finish (s.withTick i)).advance = (holdTick len finish (s.withTick j)).advance := by
  rw [holdTick, holdTick, apply_ite State.advance, apply_ite State.advance, hfinish]
  rfl

theorem sameLevelSample_withTick_congr (s : State) (i j : Tick) :
    (sameLevelSample (s.withTick i)).advance = (sameLevelSample (s.withTick j)).advance := by
  rw [sameLevelSample, sameLevelSample, apply_ite State.advance, apply_ite State.advance]
  rfl

theorem slotWrite_withTick_congr {i j : Tick} {n v : Nat} {rest : State → State}
    (hrest : (rest (storeSlot n v (s.withTick i))).advance =
      (rest (storeSlot n v (s.withTick j))).advance) :
    onNext (slotWrite n v (s.withTick i) rest) State.advance =
      onNext (slotWrite n v (s.withTick j) rest) State.advance := by
  unfold slotWrite
  split
  · exact congrArg _ hrest
  · rfl

/-- R85: of the tick it samples, an operation other than IDLE reads the line alone. -/
theorem exec_withTick_congr {i j : Tick} (hbusy : s.st ≠ St.idle) (hline : i.line = j.line) :
    onNext (exec (decodeState s.st) (s.withTick i)) State.advance =
      onNext (exec (decodeState s.st) (s.withTick j)) State.advance := by
  have hsame := sameLevelSample_withTick_congr s i j
  rcases stCode_cases s.st with hst | hst | hst | hst | hst | hst | hst | hst | hst | hst
  · exact absurd hst hbusy
  · rw [hst]; exact congrArg Host.Outcome.next (holdTick_withTick_congr rfl)
  · rw [hst]; exact congrArg Host.Outcome.next (holdTick_withTick_congr rfl)
  · rw [hst]
    change onNext (execReleaseWait _) _ = onNext (execReleaseWait _) _
    simp only [execReleaseWait, withTick_inputs, hline]
    cases j.line with
    | high => exact congrArg _ hsame
    | low => rfl
  · rw [hst]
    change onNext (execCapLow _) _ = onNext (execCapLow _) _
    simp only [execCapLow, withTick_inputs, hline]
    cases j.line with
    | high => exact slotWrite_withTick_congr rfl
    | low => exact congrArg _ hsame
  · rw [hst]
    change onNext (execCapHigh _) _ = onNext (execCapHigh _) _
    simp only [execCapHigh, withTick_inputs, hline]
    cases j.line with
    | high => exact congrArg _ hsame
    | low => exact slotWrite_withTick_congr rfl
  · rw [hst]; rfl
  · rw [hst]
    change onNext (execPack _) _ = onNext (execPack _) _
    have hops : packOperands (s.withTick i) = packOperands (s.withTick j) := rfl
    simp only [execPack, hops]
    cases packOperands (s.withTick j) <;> rfl
  · rw [hst]; rfl
  · rw [exec_reserved hst, exec_reserved hst]

/-- A step of a busy engine reads `rst` and the line of its tick, and uses the tick up. -/
theorem step_withTick_congr {i j : Tick} (hbusy : s.st ≠ St.idle) (hrst : i.rst = j.rst)
    (hline : i.line = j.line) : step (s.withTick i) = step (s.withTick j) := by
  have hexec : onNext (exec (s.withTick i).op (s.withTick i)) State.advance =
      onNext (exec (s.withTick j).op (s.withTick j)) State.advance := by
    cases hr : j.rst with
    | true =>
      rw [op_of_rst (s := s.withTick i) (hrst.trans hr), op_of_rst (s := s.withTick j) hr]
      rfl
    | false =>
      rw [op_of_not_rst (s := s.withTick i) (hrst.trans hr), op_of_not_rst (s := s.withTick j) hr]
      exact exec_withTick_congr hbusy hline
  simp only [step, State.withTick_cfg, hexec]

/-- Settles O13: the two inputs agree in `rst` and in the line. -/
theorem startIgnoredWhileBusy : Obligations.StartIgnoredWhileBusy :=
  fun s i rest _ hbusy => step_withTick_congr (s := { s with stim := i :: rest }) hbusy rfl rfl

end Sys2Proof.Machine
end

section
/-!
The line in one read (40_handshake.md R87): the engine drives it in the two hold phases only, which follow an
accepted START and one another with no tick between them.
-/

namespace Sys2Proof.Machine

variable {s t : State}

/-! ### The pad -/

theorem padOe_iff : s.padOe = true ↔ s.st = St.wakeHigh ∨ s.st = St.startLow := by
  simp [State.padOe]

theorem padOe_padOut_of_wakeHigh (h : s.st = St.wakeHigh) :
    s.padOe = true ∧ s.padOut = true :=
  (padAndBusyFollowTheState s).1 h

theorem padOe_padOut_of_startLow (h : s.st = St.startLow) :
    s.padOe = true ∧ s.padOut = false :=
  (padAndBusyFollowTheState s).2.1 h

/-- R87: no case but an accepted START leads from a released pad to a driven one. -/
theorem StepCase.start_of_padOe (h : StepCase s t) (hs : s.padOe = false) (ht : t.padOe = true) :
    s.st = St.idle ∧ s.inputs.start = true ∧ s.inputs.rst = false := by
  have hst : s.st ≠ St.wakeHigh ∧ s.st ≠ St.startLow := by
    simpa [padOe_iff] using Bool.eq_false_iff.1 hs
  have ht' := padOe_iff.1 ht
  cases h with
  | start hr hidle hstart => exact ⟨hidle, hstart, hr⟩
  | wakeCount _ hwake | wakeEnd _ hwake => exact absurd hwake hst.1
  | lowCount _ hlow | lowEnd _ hlow => exact absurd hlow hst.2
  | idle | count => exact (ht'.elim hst.1 hst.2).elim
  | highPhase =>
    exact (ht'.elim (highPhaseEnd_st_ne (by decide) (by decide))
      (highPhaseEnd_st_ne (by decide) (by decide))).elim
  | pack _ hpack => simp [hpack, ite_eq_iff] at ht'
  | reset | timeout | reading | mismatch | releaseEnd | lowPhase | thresh => simp at ht'

/-! ### A hold phase -/

/-- A tick of state `c` under the parameters `p` is a tick of a hold phase of `len` ticks that is left
through `finish`. -/
def IsHoldPhase (p : Params) (c : StCode) (len : Nat) (finish : State → State) : Prop :=
  ∀ s : State, s.cfg = p → exec (decodeState c) s = .next (holdTick len finish s)

theorem isHoldPhase_wakeHigh (p : Params) : IsHoldPhase p St.wakeHigh p.wakeTicks wakeEnd := by
  rintro s rfl
  exact exec_wakeHigh s

theorem isHoldPhase_startLow (p : Params) :
    IsHoldPhase p St.startLow p.startTicks startPulseEnd := by
  rintro s rfl
  exact exec_startLow s

/-- The engine is in state `c` after `n` ticks of it, with the ticks `ts` to come. -/
structure Holding (p : Params) (c : StCode) (n : Nat) (ts : List Tick) (s : State) : Prop where
  cfg : s.cfg = p
  st : s.st = c
  hold : s.hold = n
  stim : s.stim = ts

variable {p : Params} {c : StCode} {len n : Nat} {finish : State → State} {i : Tick} {ts : List Tick}

theorem IsHoldPhase.step_next (hphase : IsHoldPhase p c len finish) (hp : p.Usable)
    (hs : Holding p c n (i :: ts) s) (hr : i.rst = false) :
    step s = .next (holdTick len finish s).advance :=
  step_of_exec (hs.cfg ▸ hp) (inputs_of_cons hs.stim ▸ hr) hs.st (hphase s hs.cfg)

theorem Holding.holdCount_advance (hs : Holding p c n (i :: ts) s) :
    Holding p c (n + 1) ts (holdCount s).advance where
  cfg := hs.cfg
  st := hs.st
  hold := by simp [hs.hold]
  stim := by simp [hs.stim]

/-- The rest of a hold phase: its state lasts for the ticks that are left, then `finish` is applied. -/
theorem IsHoldPhase.run_rest (hphase : IsHoldPhase p c len finish) (hp : p.Usable)
    {rest : List Tick} (hs : Holding p c n (ts ++ rest) s) (hne : ts ≠ [])
    (hlen : n + ts.length = len) (hr : Stim.noReset ts = true) :
    (∀ k < ts.length, ∃ u, run k s = .next u ∧ u.st = c) ∧
      ∃ u, run ts.length s = .next (finish u).advance ∧ u.cfg = p ∧ u.stim.tail = rest := by
  induction ts generalizing n s with
  | nil => exact absurd rfl hne
  | cons i ts ih =>
    obtain ⟨hi, hts⟩ : i.rst = false ∧ Stim.noReset ts = true := by simpa [Stim.noReset] using hr
    rw [List.length_cons] at hlen
    have hstep := hphase.step_next hp hs hi
    rcases eq_or_ne ts [] with rfl | hts_ne
    · rw [holdTick_of_le finish (by rw [hs.hold]; exact hlen.ge)] at hstep
      refine ⟨fun k hk => ⟨s, ?_, hs.st⟩, s, run_succ_of_next 0 hstep, hs.cfg, by simp [hs.stim]⟩
      rw [Nat.lt_one_iff.1 hk, run_zero]
    · have hleft : 0 < ts.length := List.length_pos_iff.2 hts_ne
      rw [holdTick_of_lt finish (by rw [hs.hold]; omega)] at hstep
      obtain ⟨hin, u, hrun, hu⟩ := ih hs.holdCount_advance hts_ne (by omega) hts
      refine ⟨fun k hk => ?_, u, (run_succ_of_next _ hstep).trans hrun, hu⟩
      cases k with
      | zero => exact ⟨s, rfl, hs.st⟩
      | succ k =>
        obtain ⟨v, hv, hvst⟩ := hin k (Nat.lt_of_succ_lt_succ hk)
        exact ⟨v, (run_succ_of_next k hstep).trans hv, hvst⟩

/-- A whole hold phase of `len` ticks, from its first tick. -/
theorem IsHoldPhase.run_whole (hphase : IsHoldPhase p c len finish) (hp : p.Usable)
    {rest : List Tick} (hs : Holding p c 0 (ts ++ rest) s) (hpos : 1 ≤ len) (hlen : ts.length = len)
    (hr : Stim.noReset ts = true) :
    (∀ k < len, ∃ u, run k s = .next u ∧ u.st = c) ∧
      ∃ u, run len s = .next (finish u).advance ∧ u.cfg = p ∧ u.stim.tail = rest := by
  subst hlen
  exact hphase.run_rest hp hs (List.length_pos_iff.1 hpos) (Nat.zero_add _) hr

/-! ### From START to the release of the line -/

/-- A read from its START to the release of the line: the hold phases follow one another with no tick
between them. -/
theorem run_read_to_release {ws ls rest : List Tick} (hc : s.cfg.Usable) (hst : s.st = St.idle)
    (hstim : s.stim = i :: (ws ++ (ls ++ rest))) (hs : i.start = true) (hr : i.rst = false)
    (hws : Stim.noReset ws = true) (hls : Stim.noReset ls = true)
    (hwake : ws.length = s.cfg.wakeTicks) (hlow : ls.length = s.cfg.startTicks) :
    (∀ k < s.cfg.wakeTicks, ∃ u, run (1 + k) s = .next u ∧ u.st = St.wakeHigh) ∧
    (∀ k < s.cfg.startTicks,
      ∃ u, run (1 + s.cfg.wakeTicks + k) s = .next u ∧ u.st = St.startLow) ∧
    ∃ u, run (1 + s.cfg.wakeTicks + s.cfg.startTicks) s = .next u ∧ u.st = St.releaseWait ∧
      u.cnt = 0 ∧ u.stim = rest := by
  obtain ⟨-, hwpos, hlpos, -⟩ := hc.1
  have hin := inputs_of_cons hstim
  have hstart : run 1 s = .next (acceptStart s).advance :=
    run_succ_of_next 0 (step_idle_of_start hc hst (hin ▸ hr) (hin ▸ hs))
  have hhigh : Holding s.cfg St.wakeHigh 0 (ws ++ (ls ++ rest)) (acceptStart s).advance :=
    ⟨rfl, rfl, rfl, by simp [hstim]⟩
  obtain ⟨hkhigh, u, hu, hucfg, hustim⟩ :=
    (isHoldPhase_wakeHigh s.cfg).run_whole hc hhigh hwpos hwake hws
  have hruns : run (1 + s.cfg.wakeTicks) s = .next (wakeEnd u).advance :=
    (run_add _ hstart).trans hu
  have hpulse : Holding s.cfg St.startLow 0 (ls ++ rest) (wakeEnd u).advance :=
    ⟨hucfg, rfl, rfl, hustim⟩
  obtain ⟨hklow, v, hv, -, hvstim⟩ :=
    (isHoldPhase_startLow s.cfg).run_whole hc hpulse hlpos hlow hls
  exact ⟨fun k hk => run_add k hstart ▸ hkhigh k hk, fun k hk => run_add k hruns ▸ hklow k hk,
    (startPulseEnd v).advance, (run_add _ hruns).trans hv, rfl, rfl, hvstim⟩

/-- Settles O12: the ticks after START are those of the two hold phases, and the pad follows their state
codes. -/
theorem lineDrivenExactly : Obligations.LineDrivenExactly := by
  refine ⟨fun s i ts rest hc hst hstim hs hr hts hlen => ?_,
    fun s t hstep => (step_cases hstep).2.start_of_padOe⟩
  obtain ⟨ws, ls, rfl, hwake⟩ : ∃ ws ls, ts = ws ++ ls ∧ ws.length = s.cfg.wakeTicks :=
    ⟨ts.take s.cfg.wakeTicks, ts.drop s.cfg.wakeTicks, (List.take_append_drop _ _).symm,
      List.length_take_of_le (by omega)⟩
  have hlow : ls.length = s.cfg.startTicks := by simpa [hwake] using hlen
  obtain ⟨hws, hls⟩ : Stim.noReset ws = true ∧ Stim.noReset ls = true := by
    simpa only [Stim.noReset, List.all_append, Bool.and_eq_true] using hts
  rw [List.append_assoc] at hstim
  obtain ⟨hhighs, hlows, u, hu, hust, hucnt, hustim⟩ :=
    run_read_to_release hc hst hstim hs hr hws hls hwake hlow
  refine ⟨by simp [State.padOe, hst], fun k hk => ?_, fun k hk => ?_,
    u, hu, by simp [State.padOe, hust], hust, hucnt, hustim⟩
  · obtain ⟨v, hv, hvst⟩ := hhighs k hk
    exact ⟨v, hv, padOe_padOut_of_wakeHigh hvst⟩
  · obtain ⟨v, hv, hvst⟩ := hlows k hk
    exact ⟨v, hv, padOe_padOut_of_startLow hvst⟩

end Sys2Proof.Machine
end

section
/-!
The record of a capture (41_capture.md R96, R98): the end of a phase stores a real duration in the phase's own
slot and adds it to the sum exactly when the slot carries a data bit, so every step keeps
`State.CaptureRecord`.
-/

namespace Sys2Proof.Machine

/-! ### The sum of the data-bit durations (R22) -/

/-- A duration after a slot write: the value written at the slot of its bit, the old value elsewhere. -/
theorem dataDuration_setIfInBounds (slot : Vector Nat 82) (n x k : Nat) :
    dataDuration (slot.setIfInBounds n x) k =
      if n = 2 * k + 3 ∧ n < 82 then x else dataDuration slot k := by
  rw [dataDuration, dataDuration, Vector.getElem?_setIfInBounds]
  by_cases hown : n = 2 * k + 3
  · subst hown
    by_cases hn : 2 * k + 3 < 82 <;> simp [hn]
  · simp [hown]

theorem dataDuration_eq_getElem (slot : Vector Nat 82) {k : Nat} (h : 2 * k + 3 < 82) :
    dataDuration slot k = slot[2 * k + 3] := by
  simp [dataDuration, h]

/-- Writing a slot of no bit below `m` leaves the sum of the first `m` bits. -/
theorem dataSum_setIfInBounds (slot : Vector Nat 82) (n x : Nat) {m : Nat}
    (h : ∀ k < m, n ≠ 2 * k + 3) : dataSum (slot.setIfInBounds n x) m = dataSum slot m := by
  induction m with
  | zero => rfl
  | succ m ih =>
    have hlast : n ≠ 2 * m + 3 := h m m.lt_succ_self
    rw [dataSum, dataSum, ih fun k hk => h k (hk.trans m.lt_succ_self),
      dataDuration_setIfInBounds, if_neg fun hn => hlast hn.1]

/-- Real durations sum to at least their number. -/
theorem le_dataSum {slot : Vector Nat 82} (hslot : ∀ n (h : n < 82), 1 ≤ slot[n]) {m : Nat}
    (hm : m ≤ 40) : m ≤ dataSum slot m := by
  induction m with
  | zero => exact Nat.zero_le _
  | succ m ih =>
    rw [dataSum, dataDuration_eq_getElem slot (by omega)]
    exact Nat.add_le_add (ih (by omega)) (hslot _ _)

variable {s t : State}

/-! ### The end of a phase (R94, R95) -/

/-- Storing a real duration in slot `m` extends the slots known to hold one from below `m` to below
`m + 1`. -/
theorem one_le_storeSlot {m v : Nat} (hv : 1 ≤ v)
    (hslot : ∀ n (h : n < 82), n < m → 1 ≤ s.slot[n]) (n : Nat) (h : n < 82) (hn : n < m + 1) :
    1 ≤ (storeSlot m v s).slot[n] := by
  rw [storeSlot_slot, slot_set_getElem]
  split
  · exact hv
  · exact hslot n h (by omega)

theorem State.CaptureRecord.stored_lowPhase (hrec : s.CaptureRecord) (hs : s.Inv)
    (hst : s.st = St.capLow) (n : Nat) (h : n < 82) (hn : n < 2 * s.pidx.toNat + 1) :
    1 ≤ (storeSlot (lowSlot s.pidx) s.cnt s).slot[n] :=
  one_le_storeSlot (hs.cnt_pos (.inl hst)) (hrec.low_stored hst) n h hn

theorem State.CaptureRecord.stored_highPhase (hrec : s.CaptureRecord) (hs : s.Inv)
    (hst : s.st = St.capHigh) (n : Nat) (h : n < 82) (hn : n < 2 * s.pidx.toNat + 2) :
    1 ≤ (storeSlot (highSlot s.pidx) s.cnt s).slot[n] :=
  one_le_storeSlot (hs.cnt_pos (.inr hst)) (hrec.high_stored hst) n h hn

/-- A Low duration carries no data bit. -/
theorem dataSum_storeSlot_lowSlot (p : BitVec 6) (v m : Nat) (s : State) :
    dataSum (storeSlot (lowSlot p) v s).slot m = dataSum s.slot m :=
  dataSum_setIfInBounds _ _ _ fun k _ => by unfold lowSlot; omega

/-- The High duration of pair `p` is the data bit `p - 1`, and that of pair 0 is none. -/
theorem dataSum_storeSlot_highSlot {p : BitVec 6} (hp : p.toNat ≤ 40) (v : Nat) (s : State) :
    dataSum (storeSlot (highSlot p) v s).slot p.toNat =
      dataSum s.slot (p.toNat - 1) + if 1 ≤ p.toNat then v else 0 := by
  have hearlier : dataSum (storeSlot (highSlot p) v s).slot (p.toNat - 1) =
      dataSum s.slot (p.toNat - 1) :=
    dataSum_setIfInBounds _ _ _ fun k hk => by unfold highSlot; omega
  cases hbits : p.toNat with
  | zero => rfl
  | succ m =>
    have hown : highSlot p = 2 * m + 3 ∧ highSlot p < 82 := by unfold highSlot; omega
    rw [hbits, Nat.add_sub_cancel] at hearlier
    rw [dataSum, hearlier, storeSlot_slot, dataDuration_setIfInBounds, if_pos hown,
      Nat.add_sub_cancel, if_pos (Nat.le_add_left 1 m)]

/-- After the High phase of pair `p` the sum is that of the data bits of the pairs up to `p`. -/
theorem State.CaptureRecord.sum_highPhase (hrec : s.CaptureRecord) (hst : s.st = St.capHigh)
    (hp : s.pidx.toNat ≤ 40) :
    (highPhaseEnd s).hsum = dataSum (storeSlot (highSlot s.pidx) s.cnt s).slot s.pidx.toNat := by
  rw [highPhaseEnd_hsum, dataSum_storeSlot_highSlot hp, ← hrec.sum_capture (.inr hst)]
  split <;> rfl

/-! ### The clauses of the record -/

/-- The last pair is 40, so the pair after another one is the next. -/
theorem pidx_succ_toNat (hp : s.pidx.toNat ≤ 40) : (s.pidx + 1#6).toNat = s.pidx.toNat + 1 := by
  bv_omega

/-- A High phase that leads back to CAP_LOW goes on to the next pair (R95). -/
theorem highPhaseEnd_pidx_of_capLow (hp : s.pidx.toNat ≤ 40)
    (ht : (highPhaseEnd s).st = St.capLow) :
    (highPhaseEnd s).pidx.toNat = s.pidx.toNat + 1 := by
  have hlast : s.pidx ≠ 40#6 := fun hlast => by simp [hlast] at ht
  rw [highPhaseEnd_pidx, if_neg hlast, pidx_succ_toNat hp]

/-- A High phase that leads to THRESH is that of pair 40 (R95). -/
theorem pidx_of_highPhaseEnd_thresh (ht : (highPhaseEnd s).st = St.thresh) :
    s.pidx.toNat = 40 := by
  by_contra hlast
  have hne : s.pidx ≠ 40#6 := fun h => hlast (by rw [h]; rfl)
  simp [hne] at ht

theorem StepCase.low_stored (h : StepCase s t) (hs : s.Inv) (hrec : s.CaptureRecord)
    (ht : t.st = St.capLow) (n : Nat) (hn : n < 82) (hlt : n < 2 * t.pidx.toNat) :
    1 ≤ t.slot[n] := by
  cases h with
  | releaseEnd => exact absurd hlt (Nat.not_lt_zero n)
  | highPhase _ hst _ hp =>
    have hpidx := highPhaseEnd_pidx_of_capLow (s := storeSlot (highSlot s.pidx) s.cnt s) hp ht
    exact hrec.stored_highPhase hs hst n hn (by simp at hlt hpidx; omega)
  | idle | wakeCount | lowCount | count => exact hrec.low_stored ht n hn hlt
  | _ => simp_all [ite_eq_iff]

theorem StepCase.high_stored (h : StepCase s t) (hs : s.Inv) (hrec : s.CaptureRecord)
    (ht : t.st = St.capHigh) (n : Nat) (hn : n < 82) (hlt : n < 2 * t.pidx.toNat + 1) :
    1 ≤ t.slot[n] := by
  cases h with
  | lowPhase _ hst => exact hrec.stored_lowPhase hs hst n hn hlt
  | highPhase => exact absurd ht (highPhaseEnd_st_ne (by decide) (by decide))
  | idle | wakeCount | lowCount | count => exact hrec.high_stored ht n hn hlt
  | _ => simp_all [ite_eq_iff]

theorem StepCase.sum_capture (h : StepCase s t) (hs : s.Inv) (hrec : s.CaptureRecord)
    (ht : t.st = St.capLow ∨ t.st = St.capHigh) :
    t.hsum = dataSum t.slot (t.pidx.toNat - 1) := by
  cases h with
  | releaseEnd _ hst => exact hs.hsum_early (.inr (.inr hst))
  | lowPhase _ hst =>
    exact (hrec.sum_capture (.inl hst)).trans (dataSum_storeSlot_lowSlot _ _ _ _).symm
  | highPhase _ hst _ hp =>
    have hlow := ht.resolve_right (highPhaseEnd_st_ne (by decide) (by decide))
    rw [State.advance_pidx,
      highPhaseEnd_pidx_of_capLow (s := storeSlot (highSlot s.pidx) s.cnt s) hp hlow]
    exact hrec.sum_highPhase hst hp
  | idle | wakeCount | lowCount | count => exact hrec.sum_capture ht
  | _ => simp_all [ite_eq_iff]

/-- The states after a complete capture. -/
def State.Captured (s : State) : Prop := s.st = St.thresh ∨ s.st = St.pack ∨ s.st = St.check

/-- A High phase ends the capture only at pair 40. -/
theorem pidx_of_highPhaseEnd_captured (ht : (highPhaseEnd s).Captured) : s.pidx.toNat = 40 :=
  pidx_of_highPhaseEnd_thresh <| ht.resolve_right fun h =>
    h.elim (highPhaseEnd_st_ne (by decide) (by decide))
      (highPhaseEnd_st_ne (by decide) (by decide))

/-- THRESH and PACK begin in a state with a complete capture, and change neither slots nor sum. -/
theorem StepCase.captured (h : StepCase s t) (ht : t.Captured) :
    (s.Captured ∧ t.slot = s.slot ∧ t.hsum = s.hsum) ∨
      s.st = St.capHigh ∧ s.pidx.toNat = 40 ∧
        t = (highPhaseEnd (storeSlot (highSlot s.pidx) s.cnt s)).advance := by
  cases h with
  | highPhase _ hst => exact .inr ⟨hst, pidx_of_highPhaseEnd_captured ht, rfl⟩
  | thresh _ hst => exact .inl ⟨.inl hst, rfl, rfl⟩
  | pack _ hst => exact .inl ⟨.inr (.inl hst), rfl, rfl⟩
  | idle | wakeCount | lowCount | count => exact .inl ⟨ht, rfl, rfl⟩
  | _ => simp [State.Captured] at ht

theorem StepCase.all_stored (h : StepCase s t) (hs : s.Inv) (hrec : s.CaptureRecord)
    (ht : t.Captured) (n : Nat) (hn : n < 82) : 1 ≤ t.slot[n] := by
  rcases h.captured ht with ⟨hst, hslot, -⟩ | ⟨hst, hlast, rfl⟩
  · simpa only [hslot] using hrec.all_stored hst n hn
  · exact hrec.stored_highPhase hs hst n hn (by omega)

theorem StepCase.sum_complete (h : StepCase s t) (hrec : s.CaptureRecord) (ht : t.Captured) :
    t.hsum = dataSum t.slot 40 := by
  rcases h.captured ht with ⟨hst, hslot, hhsum⟩ | ⟨hst, hlast, rfl⟩
  · rw [hslot, hhsum, hrec.sum_complete hst]
  · have hsum := hrec.sum_highPhase hst hlast.le
    rwa [hlast] at hsum

theorem StepCase.captureRecord (h : StepCase s t) (hs : s.Inv) (hrec : s.CaptureRecord) :
    t.CaptureRecord where
  low_stored := h.low_stored hs hrec
  high_stored := h.high_stored hs hrec
  sum_capture := h.sum_capture hs hrec
  all_stored := h.all_stored hs hrec
  sum_complete := h.sum_complete hrec

/-- Settles O43: each clause is kept by each case of a step, and after a complete capture the record and the
ranges of the invariant give R98. -/
theorem captureRecordKeptByEveryStep : Obligations.CaptureRecordKeptByEveryStep := by
  refine ⟨fun s t hs hrec hstep => (step_cases hstep).2.captureRecord hs hrec,
    fun s hs hrec hst => ?_⟩
  have hstored := hrec.all_stored hst
  have hsum := hrec.sum_complete hst
  exact ⟨fun n h => ⟨hstored n h, hs.slot_le n h⟩, hsum, hsum ▸ le_dataSum hstored le_rfl,
    hs.hsum_le⟩

end Sys2Proof.Machine
end

section
/-!
One tick of the edge sampler of 41_capture.md: each waiting state at each level of the line (R92, R94, R95),
and the line as an input of these three states only (R91).
-/

namespace Sys2Proof.Machine

variable {s t : State}

/-! ### A sample at the level waited out (R92, R94, R95) -/

/-- The sample after the `C`-th writes the tag, the strobe and the state code, and nothing else. -/
theorem sameLevelSample_of_eq (h : s.cnt = s.cfg.ceiling) :
    sameLevelSample s = { s with outTag := .timeout, done := true, st := St.idle } :=
  (if_pos h).trans (complete_of_ne_reading (by decide) s)

theorem sameLevelSample_of_ne (h : s.cnt ≠ s.cfg.ceiling) : sameLevelSample s = countSample s :=
  if_neg h

theorem exec_releaseWait_of_high (h : s.inputs.line = .high) :
    exec .releaseWait s = .next (sameLevelSample s) := by
  simp [exec, execReleaseWait, h]

theorem exec_capLow_of_low (h : s.inputs.line = .low) :
    exec .capLow s = .next (sameLevelSample s) := by
  simp [exec, execCapLow, h]

theorem exec_capHigh_of_high (h : s.inputs.line = .high) :
    exec .capHigh s = .next (sameLevelSample s) := by
  simp [exec, execCapHigh, h]

/-! ### A sample at the other level (R92, R94, R95) -/

theorem exec_releaseWait_of_low (h : s.inputs.line = .low) :
    exec .releaseWait s = .next (releaseEnd s) := by
  simp [exec, execReleaseWait, h]

theorem exec_capLow_of_high (h : s.inputs.line = .high) :
    exec .capLow s = slotWrite (lowSlot s.pidx) s.cnt s lowPhaseEnd := by
  simp [exec, execCapLow, h]

theorem exec_capHigh_of_low (h : s.inputs.line = .low) :
    exec .capHigh s = slotWrite (highSlot s.pidx) s.cnt s highPhaseEnd := by
  simp [exec, execCapHigh, h]

theorem lowSlot_lt {p : BitVec 6} (h : p.toNat ≤ 40) : lowSlot p < 82 := by
  unfold lowSlot; omega

theorem highSlot_lt {p : BitVec 6} (h : p.toNat ≤ 40) : highSlot p < 82 := by
  unfold highSlot; omega

theorem exec_capLow_ends (h : s.inputs.line = .high) (hp : s.pidx.toNat ≤ 40) :
    exec .capLow s = .next (lowPhaseEnd (storeSlot (lowSlot s.pidx) s.cnt s)) := by
  rw [exec_capLow_of_high h, slotWrite_of_lt (lowSlot_lt hp)]

theorem exec_capHigh_ends (h : s.inputs.line = .low) (hp : s.pidx.toNat ≤ 40) :
    exec .capHigh s = .next (highPhaseEnd (storeSlot (highSlot s.pidx) s.cnt s)) := by
  rw [exec_capHigh_of_low h, slotWrite_of_lt (highSlot_lt hp)]

/-- Before the last pair the end of a High phase begins the next pair. -/
theorem highPhaseEnd_of_ne (h : s.pidx ≠ 40#6) :
    highPhaseEnd s = { s with
      hsum := if 1 ≤ s.pidx.toNat then s.hsum + s.cnt else s.hsum
      pidx := s.pidx + 1#6, cnt := 1, st := St.capLow, done := false } := by
  simp [highPhaseEnd, h]

/-- At the last pair it ends the capture. -/
theorem highPhaseEnd_of_eq (h : s.pidx = 40#6) :
    highPhaseEnd s = { s with hsum := s.hsum + s.cnt, st := St.thresh, done := false } := by
  simp [highPhaseEnd, h]

/-! ### The tick of each waiting state -/

/-- Settles O15: the two levels of the line, and the ceiling for the High. -/
theorem releaseWaitTick : Obligations.ReleaseWaitTick := by
  refine ⟨fun s hl hc => ?_, fun s hl hc => ?_, fun s hl => ?_⟩
  · rw [exec_releaseWait_of_high hl, sameLevelSample_of_eq hc]
  · rw [exec_releaseWait_of_high hl, sameLevelSample_of_ne hc]; rfl
  · rw [exec_releaseWait_of_low hl]; rfl

/-- Settles O16: the two levels of the line, the ceiling for the Low, and the range of the slots for the
High. -/
theorem capLowTick : Obligations.CapLowTick := by
  refine ⟨fun s hl hc => ?_, fun s hl hc => ?_, fun s hl hp => ?_, fun s hl hp => ?_⟩
  · rw [exec_capLow_of_low hl, sameLevelSample_of_eq hc]
  · rw [exec_capLow_of_low hl, sameLevelSample_of_ne hc]; rfl
  · exact ⟨_, exec_capLow_ends hl hp, rfl, slot_set_getElem s.slot (lowSlot s.pidx) s.cnt⟩
  · rw [exec_capLow_of_high hl]
    exact slotWrite_of_ge (by unfold lowSlot; omega)

/-- Settles O17: as O16, with the last pair apart from the pairs before it. -/
theorem capHighTick : Obligations.CapHighTick := by
  refine ⟨fun s hl hc => ?_, fun s hl hc => ?_, fun s hl hp => ?_, fun s hl hp => ?_,
    fun s hl hp => ?_⟩
  · rw [exec_capHigh_of_high hl, sameLevelSample_of_eq hc]
  · rw [exec_capHigh_of_high hl, sameLevelSample_of_ne hc]; rfl
  · have hlast : s.pidx ≠ 40#6 := by bv_omega
    rw [exec_capHigh_ends hl hp.le,
      highPhaseEnd_of_ne (s := storeSlot (highSlot s.pidx) s.cnt s) hlast]
    exact ⟨_, rfl, rfl, pidx_succ_toNat hp.le, slot_set_getElem s.slot (highSlot s.pidx) s.cnt⟩
  · have hlast : s.pidx = 40#6 := by bv_omega
    have hslot : highSlot s.pidx = 81 := by simp [highSlot, hp]
    rw [exec_capHigh_ends hl hp.le,
      highPhaseEnd_of_eq (s := storeSlot (highSlot s.pidx) s.cnt s) hlast, hslot]
    exact ⟨_, rfl, rfl, slot_set_getElem s.slot 81 s.cnt⟩
  · rw [exec_capHigh_of_low hl]
    exact slotWrite_of_ge (by unfold highSlot; omega)

/-! ### Where the line is read (R91) -/

/-- PACK reads nothing of the tick. -/
theorem execPack_withTick_congr (s : State) (i j : Tick) :
    onNext (execPack (s.withTick i)) State.advance =
      onNext (execPack (s.withTick j)) State.advance := by
  have hops : packOperands (s.withTick i) = packOperands (s.withTick j) := rfl
  simp only [execPack, hops]
  cases packOperands (s.withTick j) <;> rfl

/-- Of the tick it samples, the operation of a state that does not wait reads at most `start`. -/
theorem exec_withTick_congr_of_not_waiting {i j : Tick} (hw : s.waiting = false)
    (hstart : i.start = j.start) :
    onNext (exec (decodeState s.st) (s.withTick i)) State.advance =
      onNext (exec (decodeState s.st) (s.withTick j)) State.advance := by
  rcases stCode_cases s.st with hst | hst | hst | hst | hst | hst | hst | hst | hst | hst
  · rw [hst]
    change onNext (exec .idle _) _ = onNext (exec .idle _) _
    cases hs : j.start with
    | false =>
      rw [exec_idle_of_no_start (s := s.withTick i) (hstart.trans hs),
        exec_idle_of_no_start (s := s.withTick j) hs]
      rfl
    | true =>
      rw [exec_idle_of_start (s := s.withTick i) (hstart.trans hs),
        exec_idle_of_start (s := s.withTick j) hs]
      rfl
  · rw [hst]; exact congrArg Host.Outcome.next (holdTick_withTick_congr rfl)
  · rw [hst]; exact congrArg Host.Outcome.next (holdTick_withTick_congr rfl)
  · simp [State.waiting, hst] at hw
  · simp [State.waiting, hst] at hw
  · simp [State.waiting, hst] at hw
  · rw [hst]; rfl
  · rw [hst]; exact execPack_withTick_congr s i j
  · rw [hst]; rfl
  · rw [exec_reserved hst, exec_reserved hst]

/-- A step that does not wait reads `rst` and `start` of its tick, and uses the tick up. -/
theorem step_withTick_congr_of_not_waiting {i j : Tick} (hw : s.waiting = false)
    (hrst : i.rst = j.rst) (hstart : i.start = j.start) :
    step (s.withTick i) = step (s.withTick j) := by
  have hexec : onNext (exec (s.withTick i).op (s.withTick i)) State.advance =
      onNext (exec (s.withTick j).op (s.withTick j)) State.advance := by
    cases hr : j.rst with
    | true =>
      rw [op_of_rst (s := s.withTick i) (hrst.trans hr), op_of_rst (s := s.withTick j) hr]
      rfl
    | false =>
      rw [op_of_not_rst (s := s.withTick i) (hrst.trans hr), op_of_not_rst (s := s.withTick j) hr]
      exact exec_withTick_congr_of_not_waiting hw hstart
  simp only [step, State.withTick_cfg, hexec]

/-- In a waiting state a sample at the level waited out counts or times out. -/
theorem step_of_phaseLevel (hc : s.cfg.Usable) (hw : s.waiting = true) (hr : s.inputs.rst = false)
    (hl : s.inputs.line = s.phaseLevel) : step s = .next (sameLevelSample s).advance := by
  rcases waiting_cases hw with ⟨hst, hlevel⟩ | ⟨hst, hlevel⟩ | ⟨hst, hlevel⟩ <;>
    rw [hlevel] at hl
  · exact step_of_exec hc hr hst (exec_releaseWait_of_high hl)
  · exact step_of_exec hc hr hst (exec_capLow_of_low hl)
  · exact step_of_exec hc hr hst (exec_capHigh_of_high hl)

/-- Such a sample stays in the state or ends in IDLE. -/
theorem sameLevelSample_st (s : State) :
    (sameLevelSample s).st = St.idle ∨ (sameLevelSample s).st = s.st := by
  rcases sameLevelSample_cases s with ⟨-, he⟩ | ⟨-, he⟩ <;> simp [he]

/-- A sample at the other level leads on to another busy state. -/
theorem StepCase.st_of_other_level (h : StepCase s t) (hw : s.waiting = true)
    (hr : s.inputs.rst = false) (hl : s.inputs.line ≠ s.phaseLevel) :
    t.st ≠ St.idle ∧ t.st ≠ s.st := by
  cases h with
  | reset hr' => simp [hr] at hr'
  | timeout _ _ hl' | count _ _ hl' => exact absurd hl' hl
  | releaseEnd _ hst | lowPhase _ hst => simp [hst]
  | highPhase _ hst =>
    exact ⟨highPhaseEnd_st_ne (by decide) (by decide),
      hst ▸ highPhaseEnd_st_ne (by decide) (by decide)⟩
  | idle _ hst | start _ hst | wakeCount _ hst | wakeEnd _ hst | lowCount _ hst | lowEnd _ hst
  | thresh _ hst | pack _ hst | reading _ hst | mismatch _ hst => simp [State.waiting, hst] at hw

theorem flip_ne (l : Level) : l.flip ≠ l := by
  cases l <;> decide

/-- In a waiting state the level waited out and the other one have different outcomes. -/
theorem step_withTick_ne {i j : Tick} {l : Level} (hc : s.cfg.Usable) (hw : s.waiting = true)
    (hlevel : s.phaseLevel = l) (hi : i.rst = false) (hj : j.rst = false) (hli : i.line = l)
    (hlj : j.line = l.flip) : step (s.withTick i) ≠ step (s.withTick j) := by
  subst hlevel
  intro heq
  rw [step_of_phaseLevel (s := s.withTick i) hc hw hi hli] at heq
  obtain ⟨hidle, hsame⟩ := (step_cases heq.symm).2.st_of_other_level (s := s.withTick j) hw hj
    (hlj.trans_ne (flip_ne _))
  exact (sameLevelSample_st (s.withTick i)).elim hidle hsame

theorem waiting_iff :
    s.waiting = true ↔ s.st = St.releaseWait ∨ s.st = St.capLow ∨ s.st = St.capHigh := by
  simp [State.waiting, or_assoc]

/-- Settles O18: a state that does not wait reads no line, and one that waits tells its own level from the
other. -/
theorem lineReadOnlyWhileWaiting : Obligations.LineReadOnlyWhileWaiting := by
  refine ⟨fun s i rest l hrelease hlow hhigh => ?_, fun s i rest hc hr hst => ?_⟩
  · have hw : s.waiting = false := by simp [State.waiting, hrelease, hlow, hhigh]
    exact step_withTick_congr_of_not_waiting (s := { s with stim := i :: rest }) hw rfl rfl
  · have hw : s.waiting = true := waiting_iff.2 hst
    cases hlevel : s.phaseLevel with
    | low =>
      exact step_withTick_ne (s := { s with stim := i :: rest }) (i := { i with line := .low })
        (j := { i with line := .high }) hc hw hlevel hr hr rfl rfl
    | high =>
      exact (step_withTick_ne (s := { s with stim := i :: rest }) (i := { i with line := .high })
        (j := { i with line := .low }) hc hw hlevel hr hr rfl rfl).symm

end Sys2Proof.Machine
end

section
/-!
Runs over a waited phase (41_capture.md R93, R97, R99): the samples at the level waited out are counted, and
the phase ends either with the first sample at the other level or with a timeout at the `(C+1)`-th sample.
-/

namespace Sys2Proof.Machine

variable {s t u : State} {i : Tick} {ts us vs rest : List Tick} {l : Level}

/-! ### Runs over fixed ticks -/

/-- From `s`, the next ticks are `us`, and they lead to `t`. -/
def RunsOver (us : List Tick) (s t : State) : Prop :=
  s.stim = us ++ t.stim ∧ run us.length s = .next t

theorem RunsOver.refl (s : State) : RunsOver [] s s := ⟨rfl, rfl⟩

theorem RunsOver.trans (hst : RunsOver us s t) (htu : RunsOver vs t u) :
    RunsOver (us ++ vs) s u := by
  obtain ⟨hs, hrun⟩ := hst
  obtain ⟨ht, hrun'⟩ := htu
  exact ⟨by rw [hs, ht, List.append_assoc],
    by rw [List.length_append, run_add _ hrun, hrun']⟩

/-- A run leaves the ticks after those it was over. -/
theorem RunsOver.stim_eq (h : RunsOver us s t) (hstim : s.stim = us ++ rest) : t.stim = rest :=
  List.append_cancel_left (h.1.symm.trans hstim)

/-- Each step uses up one tick. -/
theorem StepCase.stim_eq (h : StepCase s t) : t.stim = s.stim.tail := by
  cases h <;> rfl

theorem RunsOver.of_step (hstim : s.stim = i :: rest) (hstep : step s = .next t) :
    RunsOver [i] s t :=
  ⟨by rw [(step_cases hstep).2.stim_eq, hstim]; rfl, run_succ_of_next 0 hstep⟩

/-! ### Samples at the level waited out -/

/-- A tick without `rst` and with the line at the level `l`. -/
def IsSample (l : Level) (i : Tick) : Prop := i.rst = false ∧ i.line = l

/-- The state after `n` samples that are only counted. -/
def countSamples (n : Nat) (s : State) : State :=
  { s with
    cnt := s.cnt + n, done := s.done && n == 0, stim := s.stim.drop n, tick := s.tick + n }

@[simp] theorem countSamples_zero (s : State) : countSamples 0 s = s := by simp [countSamples]

theorem countSamples_succ (n : Nat) (s : State) :
    countSamples (n + 1) s = countSamples n (countSample s).advance := by
  simp [countSamples, countSample, State.advance, Nat.add_comm, Nat.add_left_comm]

/-- Up to the ceiling, samples at the level waited out are counted. -/
theorem runsOver_countSamples (hc : s.cfg.Usable) (hw : s.waiting = true)
    (hstim : s.stim = ts ++ rest) (hts : ∀ i ∈ ts, IsSample s.phaseLevel i)
    (hcnt : s.cnt + ts.length ≤ s.cfg.ceiling) : RunsOver ts s (countSamples ts.length s) := by
  induction ts generalizing s with
  | nil => simpa using RunsOver.refl s
  | cons i ts ih =>
    rw [List.length_cons] at hcnt ⊢
    have hin : s.inputs = i := inputs_of_cons hstim
    obtain ⟨hr, hl⟩ := hin ▸ hts i List.mem_cons_self
    have hstep := step_of_phaseLevel hc hw hr hl
    rw [sameLevelSample_of_ne (by omega)] at hstep
    rw [countSamples_succ]
    exact (RunsOver.of_step hstim hstep).trans <|
      ih hc hw (by simp [hstim]) (fun j hj => hts j (List.mem_cons_of_mem i hj))
        (by rw [State.advance_cnt, countSample_cnt, Nat.add_assoc, Nat.add_comm 1]; exact hcnt)

/-- The tick after the counted samples of a phase. -/
theorem runsOver_phase (hc : s.cfg.Usable) (hw : s.waiting = true)
    (hstim : s.stim = ts ++ i :: rest) (hts : ∀ i ∈ ts, IsSample s.phaseLevel i)
    (hcnt : s.cnt + ts.length ≤ s.cfg.ceiling)
    (hstep : step (countSamples ts.length s) = .next t) : RunsOver (ts ++ [i]) s t :=
  (runsOver_countSamples hc hw hstim hts hcnt).trans
    (RunsOver.of_step (rest := rest) (by simp [countSamples, hstim]) hstep)

theorem countSamples_inputs (hstim : s.stim = ts ++ i :: rest) :
    (countSamples ts.length s).inputs = i :=
  inputs_of_cons (rest := rest) (by simp [countSamples, hstim])

/-! ### An overlong phase (R99, 60_exceptions.md R139) -/

/-- A phase at the ceiling, with the samples `ts` and one more, times out. -/
theorem runsOver_timeout (hc : s.cfg.Usable) (hw : s.waiting = true) (hstim : s.stim = ts ++ rest)
    (hts : ∀ i ∈ ts, IsSample s.phaseLevel i) (hcnt : s.cnt ≤ s.cfg.ceiling)
    (hlen : ts.length = s.cfg.ceiling + 1 - s.cnt) :
    RunsOver ts s { s with
      cnt := s.cfg.ceiling, outTag := .timeout, done := true, st := St.idle,
      stim := rest, tick := s.tick + ts.length } := by
  rcases List.eq_nil_or_concat' ts with rfl | ⟨ts, i, rfl⟩
  · simp at hlen; omega
  · rw [List.length_append, List.length_singleton] at hlen
    rw [List.append_assoc] at hstim
    obtain ⟨hr, hl⟩ : IsSample s.phaseLevel i := hts i (by simp)
    have hin := countSamples_inputs hstim
    have hfull : (countSamples ts.length s).cnt = (countSamples ts.length s).cfg.ceiling := by
      simp only [countSamples]; omega
    have hstep := step_of_phaseLevel (s := countSamples ts.length s) hc hw (hin ▸ hr) (hin ▸ hl)
    rw [sameLevelSample_of_eq hfull] at hstep
    refine runsOver_phase hc hw hstim (fun j hj => hts j (by simp [hj])) (by omega) ?_
    rw [hstep]
    have hcnt' : s.cnt + ts.length = s.cfg.ceiling := by omega
    simp [State.advance, countSamples, hstim, hcnt', Nat.add_assoc]

/-- Settles O20: the samples up to the ceiling are counted, and the next one times out. -/
theorem overlongPhaseTimesOut : Obligations.OverlongPhaseTimesOut := by
  intro s ts rest hc hw hcnt hstim hlen hts
  have hrun := runsOver_timeout hc hw hstim hts hcnt hlen
  refine ⟨_, hrun.2, rfl, padOe_of_not_busy rfl, fun hs => ?_⟩
  exact hs.no_reading_no_data (by simp [(hs.busy_none (ne_idle_of_waiting hw)).1])

/-! ### How a waited phase ends -/

/-- The read has ended as TIMEOUT. -/
def State.TimedOut (t : State) : Prop := t.st = St.idle ∧ t.outTag = .timeout ∧ t.done = true

theorem isSample_or_flip (l : Level) (hr : i.rst = false) : IsSample l i ∨ IsSample l.flip i := by
  cases l <;> cases hl : i.line <;> simp [IsSample, Level.flip, hr, hl]

/-- Of ticks without `rst`, either the first `n` sample the level `l`, or less than `n` do before one that
samples the other level. -/
theorem samples_split (l : Level) {n : Nat} (hr : Stim.noReset us = true) (hlen : n ≤ us.length) :
    (∃ ts rest, us = ts ++ rest ∧ (∀ j ∈ ts, IsSample l j) ∧ ts.length = n) ∨
      ∃ ts i rest, us = ts ++ i :: rest ∧ (∀ j ∈ ts, IsSample l j) ∧ IsSample l.flip i ∧
        ts.length < n := by
  induction n generalizing us with
  | zero => exact .inl ⟨[], us, rfl, by simp, rfl⟩
  | succ n ih =>
    cases us with
    | nil => simp at hlen
    | cons i us =>
      obtain ⟨hi, hus⟩ : i.rst = false ∧ Stim.noReset us = true := by simpa [Stim.noReset] using hr
      rcases isSample_or_flip l hi with hsame | hother
      · rcases ih hus (Nat.le_of_succ_le_succ hlen) with
          ⟨ts, rest, rfl, hts, rfl⟩ | ⟨ts, j, rest, rfl, hts, hj, hlt⟩
        · exact .inl ⟨i :: ts, rest, rfl, List.forall_mem_cons.2 ⟨hsame, hts⟩, rfl⟩
        · exact .inr ⟨i :: ts, j, rest, rfl, List.forall_mem_cons.2 ⟨hsame, hts⟩, hj,
            Nat.succ_lt_succ hlt⟩
      · exact .inr ⟨[], i, us, rfl, by simp, hother, Nat.succ_pos n⟩

/-- With ticks enough, a waited phase times out, or its last counted sample is followed by one at the other
level. -/
theorem phase_ends (hc : s.cfg.Usable) (hw : s.waiting = true) (hcnt : s.cnt ≤ s.cfg.ceiling)
    (hr : Stim.noReset s.stim = true) (hlen : s.cfg.ceiling + 1 - s.cnt ≤ s.stim.length) :
    (∃ ts t, RunsOver ts s t ∧ t.TimedOut ∧ ts.length = s.cfg.ceiling + 1 - s.cnt) ∨
      ∃ ts i rest, s.stim = ts ++ i :: rest ∧ (∀ j ∈ ts, IsSample s.phaseLevel j) ∧
        IsSample s.phaseLevel.flip i ∧ s.cnt + ts.length ≤ s.cfg.ceiling := by
  rcases samples_split s.phaseLevel hr hlen with
    ⟨ts, rest, hstim, hts, hn⟩ | ⟨ts, i, rest, hstim, hts, hi, hlt⟩
  · exact .inl ⟨ts, _, runsOver_timeout hc hw hstim hts hcnt hn, ⟨rfl, rfl, rfl⟩, hn⟩
  · exact .inr ⟨ts, i, rest, hstim, hts, hi, by omega⟩

end Sys2Proof.Machine
end

section
/-!
The capture pair by pair (41_capture.md R96): from the start of pair `p`, the engine either stores the two
durations and comes to the start of the next pair, or times out. After pair 40 it is in THRESH.
-/

namespace Sys2Proof.Machine

variable {s t : State} {j : Tick} {as us rest : List Tick} {p : Nat} {pairs : List (Nat × Nat)}

/-! ### The end of a phase, as a run -/

/-- After a Low phase with `n` samples more and the first High. -/
def afterLow (n : Nat) (s : State) : State :=
  (lowPhaseEnd (storeSlot (lowSlot s.pidx) (s.cnt + n) (countSamples n s))).advance

/-- After a High phase with `n` samples more and the first Low. -/
def afterHigh (n : Nat) (s : State) : State :=
  (highPhaseEnd (storeSlot (highSlot s.pidx) (s.cnt + n) (countSamples n s))).advance

/-- After a release wait with `n` samples more and the first Low. -/
def afterRelease (n : Nat) (s : State) : State := (releaseEnd (countSamples n s)).advance

/-- The first sample at the other level ends the phase. -/
theorem runsOver_phaseEnd {c : StCode} {l : Level} (hc : s.cfg.Usable) (hst : s.st = c)
    (hw : s.waiting = true) (hlevel : s.phaseLevel = l) (hstim : s.stim = as ++ j :: rest)
    (has : ∀ i ∈ as, IsSample l i) (hj : IsSample l.flip j)
    (hcnt : s.cnt + as.length ≤ s.cfg.ceiling)
    (hexec : (countSamples as.length s).inputs.line = l.flip →
      exec (decodeState c) (countSamples as.length s) = .next t) :
    RunsOver (as ++ [j]) s t.advance := by
  subst hlevel
  have hin := countSamples_inputs hstim
  exact runsOver_phase hc hw hstim has hcnt
    (step_of_exec (s := countSamples as.length s) hc (hin ▸ hj.1) hst (hexec (hin ▸ hj.2)))

theorem runsOver_afterRelease (hc : s.cfg.Usable) (hst : s.st = St.releaseWait)
    (hstim : s.stim = as ++ j :: rest) (has : ∀ i ∈ as, IsSample .high i) (hj : IsSample .low j)
    (hcnt : s.cnt + as.length ≤ s.cfg.ceiling) :
    RunsOver (as ++ [j]) s (afterRelease as.length s) :=
  runsOver_phaseEnd hc hst (waiting_iff.2 (.inl hst)) (by simp [State.phaseLevel, hst]) hstim has hj
    hcnt exec_releaseWait_of_low

theorem runsOver_afterLow (hc : s.cfg.Usable) (hst : s.st = St.capLow) (hp : s.pidx.toNat ≤ 40)
    (hstim : s.stim = as ++ j :: rest) (has : ∀ i ∈ as, IsSample .low i) (hj : IsSample .high j)
    (hcnt : s.cnt + as.length ≤ s.cfg.ceiling) :
    RunsOver (as ++ [j]) s (afterLow as.length s) :=
  runsOver_phaseEnd hc hst (waiting_iff.2 (.inr (.inl hst))) (by simp [State.phaseLevel, hst]) hstim
    has hj hcnt fun hl => exec_capLow_ends hl hp

theorem runsOver_afterHigh (hc : s.cfg.Usable) (hst : s.st = St.capHigh) (hp : s.pidx.toNat ≤ 40)
    (hstim : s.stim = as ++ j :: rest) (has : ∀ i ∈ as, IsSample .high i) (hj : IsSample .low j)
    (hcnt : s.cnt + as.length ≤ s.cfg.ceiling) :
    RunsOver (as ++ [j]) s (afterHigh as.length s) :=
  runsOver_phaseEnd hc hst (waiting_iff.2 (.inr (.inr hst))) (by simp [State.phaseLevel, hst]) hstim
    has hj hcnt fun hl => exec_capHigh_ends hl hp

/-! ### One pair -/

/-- The first Low of pair `p` was sampled; where there is no such pair, the capture is complete. -/
structure AtPair (p : Nat) (s : State) : Prop where
  usable : s.cfg.Usable
  done : s.done = false
  st : s.st = if p = 41 then St.thresh else St.capLow
  cnt : p ≤ 40 → s.cnt = 1
  pidx : p ≤ 40 → s.pidx.toNat = p

theorem AtPair.st_capLow (hs : AtPair p s) (hp : p ≤ 40) : s.st = St.capLow :=
  hs.st.trans (if_neg (by omega))

theorem atPair_afterRelease (hc : s.cfg.Usable) (n : Nat) : AtPair 0 (afterRelease n s) :=
  ⟨hc, rfl, rfl, fun _ => rfl, fun _ => rfl⟩

/-- After a pair with `n` samples more of its Low phase and `m` more of its High phase. -/
def afterPair (n m : Nat) (s : State) : State := afterHigh m (afterLow n s)

theorem afterPair_st (n m : Nat) (s : State) :
    (afterPair n m s).st = if s.pidx = 40#6 then St.thresh else St.capLow := rfl

theorem afterPair_cnt (n m : Nat) (hlast : s.pidx ≠ 40#6) : (afterPair n m s).cnt = 1 :=
  if_neg hlast

theorem afterPair_pidx (n m : Nat) (hlast : s.pidx ≠ 40#6) :
    (afterPair n m s).pidx = s.pidx + 1#6 :=
  if_neg hlast

theorem AtPair.next (hs : AtPair p s) (hp : p ≤ 40) (n m : Nat) :
    AtPair (p + 1) (afterPair n m s) := by
  have hpidx := hs.pidx hp
  have hlast : s.pidx = 40#6 ↔ p + 1 = 41 := by bv_omega
  have hinner : p + 1 ≤ 40 → s.pidx ≠ 40#6 := by bv_omega
  refine ⟨hs.usable, rfl, ?_, fun hnext => afterPair_cnt n m (hinner hnext), fun hnext => ?_⟩
  · rw [afterPair_st]; simp only [hlast]
  · rw [afterPair_pidx n m (hinner hnext), pidx_succ_toNat (by omega), hpidx]

/-- A Low phase of `n + 1` samples, the first of which was taken. -/
theorem AtPair.runsOver_low {n : Nat} (hs : AtPair p s) (hp : p ≤ 40)
    (hstim : s.stim = as ++ j :: rest) (has : ∀ i ∈ as, IsSample .low i) (hj : IsSample .high j)
    (hn : as.length = n) (hle : n + 1 ≤ s.cfg.ceiling) : RunsOver (as ++ [j]) s (afterLow n s) := by
  subst hn
  exact runsOver_afterLow hs.usable (hs.st_capLow hp) ((hs.pidx hp).le.trans hp) hstim has hj
    (by rw [hs.cnt hp]; omega)

/-- The High phase of `m + 1` samples after it, the first of which was taken. -/
theorem AtPair.runsOver_high {n m : Nat} (hs : AtPair p s) (hp : p ≤ 40)
    (hstim : (afterLow n s).stim = as ++ j :: rest) (has : ∀ i ∈ as, IsSample .high i)
    (hj : IsSample .low j) (hm : as.length = m) (hle : m + 1 ≤ s.cfg.ceiling) :
    RunsOver (as ++ [j]) (afterLow n s) (afterPair n m s) := by
  subst hm
  exact runsOver_afterHigh hs.usable rfl ((hs.pidx hp).le.trans hp) hstim has hj
    ((Nat.add_comm _ _).trans_le hle)

/-- A pair stores its two durations in its two slots. -/
theorem AtPair.afterPair_slot (hs : AtPair p s) (hp : p ≤ 40) (n m : Nat) :
    (afterPair n m s).slot =
      (s.slot.setIfInBounds (2 * p) (n + 1)).setIfInBounds (2 * p + 1) (m + 1) := by
  have hslot : (afterPair n m s).slot =
      (s.slot.setIfInBounds (2 * s.pidx.toNat) (s.cnt + n)).setIfInBounds
        (2 * s.pidx.toNat + 1) (1 + m) := rfl
  rw [hslot, hs.pidx hp, hs.cnt hp, Nat.add_comm 1 n, Nat.add_comm 1 m]

/-- A pair other than pair 0 adds its High duration to the sum. -/
theorem AtPair.afterPair_hsum (hs : AtPair p s) (hp : p ≤ 40) (n m : Nat) :
    (afterPair n m s).hsum = s.hsum + if 1 ≤ p then m + 1 else 0 := by
  have hhsum : (afterPair n m s).hsum =
      if 1 ≤ s.pidx.toNat then s.hsum + (1 + m) else s.hsum := rfl
  rw [hhsum, hs.pidx hp, Nat.add_comm 1 m]
  split <;> rfl

/-! ### The rest of the capture -/

/-- The registers that no tick of a capture writes, but one that times out. -/
def State.decodeAndOutcome (s : State) :
    Nat × BitVec 6 × Vector Byte 5 × Byte × OutTag × BitVec 16 × Bool × BitVec 15 × BitVec 40 :=
  (s.thr, s.kidx, s.fb, s.csum, s.outTag, s.outHum, s.outTsign, s.outTmag, s.outFrame)

/-- From pair `p` at `s`, the durations `pairs` were captured, which completed the capture at `t`. -/
structure CapturedFrom (p : Nat) (pairs : List (Nat × Nat)) (s t : State) : Prop where
  st : t.st = St.thresh
  done : t.done = false
  kept : ∀ n < 2 * p, t.slot[n]? = s.slot[n]?
  stored : ∀ k (h : k < pairs.length),
    t.slot[2 * (p + k)]? = some pairs[k].1 ∧ t.slot[2 * (p + k) + 1]? = some pairs[k].2
  /-- pair 0 carries no data bit -/
  hsum : t.hsum = s.hsum + ((pairs.drop (1 - p)).map Prod.snd).sum
  decodeAndOutcome : t.decodeAndOutcome = s.decodeAndOutcome

theorem AtPair.capturedFrom_nil (hs : AtPair 41 s) : CapturedFrom 41 [] s s where
  st := hs.st
  done := hs.done
  kept _ _ := rfl
  stored _ h := absurd h (Nat.not_lt_zero _)
  hsum := rfl
  decodeAndOutcome := rfl

theorem AtPair.capturedFrom_cons (hs : AtPair p s) (hp : p ≤ 40) {n m : Nat}
    (hrest : CapturedFrom (p + 1) pairs (afterPair n m s) t) :
    CapturedFrom p ((n + 1, m + 1) :: pairs) s t where
  st := hrest.st
  done := hrest.done
  kept k hk := by
    rw [hrest.kept k (by omega), hs.afterPair_slot hp, Vector.getElem?_setIfInBounds_ne (by omega),
      Vector.getElem?_setIfInBounds_ne (by omega)]
  stored
    | 0, _ => by
      have hlow := hrest.kept (2 * p) (by omega)
      have hhigh := hrest.kept (2 * p + 1) (by omega)
      rw [hs.afterPair_slot hp] at hlow hhigh
      rw [Nat.add_zero, hlow, hhigh]
      simp [show 2 * p < 82 by omega, show 2 * p + 1 < 82 by omega]
    | k + 1, hk => by
      have hk' := hrest.stored k (by simpa using hk)
      rwa [show p + 1 + k = p + (k + 1) by omega] at hk'
  hsum := by
    rw [hrest.hsum, hs.afterPair_hsum hp, Nat.add_assoc]
    cases p <;> simp
  decodeAndOutcome := hrest.decodeAndOutcome

/-! ### A well-timed sequence (R93, R96) -/

/-- Every duration is in `1 .. c`. -/
def PairsInRange (c : Nat) (pairs : List (Nat × Nat)) : Prop :=
  ∀ q ∈ pairs, (1 ≤ q.1 ∧ q.1 ≤ c) ∧ 1 ≤ q.2 ∧ q.2 ≤ c

/-- The pairs of a line sequence and its terminating Low. -/
def Stim.pairsEnd (pairs : List (Nat × Nat)) : List Tick :=
  pairs.flatMap (fun q => Stim.pair q.1 q.2) ++ Stim.low 1

theorem Stim.capture_eq (r : Nat) (pairs : List (Nat × Nat)) :
    Stim.capture r pairs = Stim.high r ++ Stim.pairsEnd pairs :=
  List.append_assoc _ _ _

theorem Stim.pairsEnd_cons (n m : Nat) (pairs : List (Nat × Nat)) :
    Stim.pairsEnd ((n + 1, m + 1) :: pairs) =
      Stim.sample .low ::
        (Stim.low n ++ Stim.sample .high :: (Stim.high m ++ Stim.pairsEnd pairs)) := by
  simp [Stim.pairsEnd, Stim.pair, Stim.low, Stim.high, List.replicate_succ]

/-- What follows a High phase begins with a Low. -/
theorem Stim.pairsEnd_eq_low_cons {c : Nat} (hrange : PairsInRange c pairs) :
    ∃ us, Stim.pairsEnd pairs = Stim.sample .low :: us := by
  cases pairs with
  | nil => exact ⟨[], rfl⟩
  | cons q pairs =>
    obtain ⟨⟨hlow, -⟩, hhigh, -⟩ := hrange q List.mem_cons_self
    obtain ⟨n, hn⟩ := Nat.exists_eq_add_of_le' hlow
    obtain ⟨m, hm⟩ := Nat.exists_eq_add_of_le' hhigh
    obtain rfl : q = (n + 1, m + 1) := Prod.ext hn hm
    exact ⟨_, Stim.pairsEnd_cons n m pairs⟩

theorem isSample_of_mem_replicate {l : Level} {n : Nat} :
    ∀ i ∈ List.replicate n (Stim.sample l), IsSample l i := fun _ hi =>
  List.eq_of_mem_replicate hi ▸ ⟨rfl, rfl⟩

/-- From the first Low of pair `p`, the ticks of the pairs that are left complete the capture. -/
theorem AtPair.runsOver_pairs (hs : AtPair p s) (hp : p + pairs.length = 41)
    (hrange : PairsInRange s.cfg.ceiling pairs)
    (hus : Stim.sample .low :: us = Stim.pairsEnd pairs) (hstim : s.stim = us ++ rest) :
    ∃ t, RunsOver us s t ∧ CapturedFrom p pairs s t := by
  induction pairs generalizing p s us with
  | nil =>
    obtain rfl : us = [] := (List.cons.inj hus).2
    obtain rfl : p = 41 := hp
    exact ⟨s, RunsOver.refl s, hs.capturedFrom_nil⟩
  | cons q pairs ih =>
    obtain ⟨⟨⟨hlow, hlowC⟩, hhigh, hhighC⟩, hpairs⟩ := List.forall_mem_cons.1 hrange
    obtain ⟨n, hn⟩ := Nat.exists_eq_add_of_le' hlow
    obtain ⟨m, hm⟩ := Nat.exists_eq_add_of_le' hhigh
    obtain rfl : q = (n + 1, m + 1) := Prod.ext hn hm
    rw [List.length_cons] at hp
    have hp40 : p ≤ 40 := by omega
    obtain ⟨vs, hvs⟩ := Stim.pairsEnd_eq_low_cons hpairs
    rw [Stim.pairsEnd_cons, hvs] at hus
    obtain rfl := (List.cons.inj hus).2
    have hrunLow : RunsOver (Stim.low n ++ [Stim.sample .high]) s (afterLow n s) :=
      hs.runsOver_low (rest := Stim.high m ++ Stim.sample .low :: vs ++ rest) hp40 (by simp [hstim])
        isSample_of_mem_replicate ⟨rfl, rfl⟩ List.length_replicate hlowC
    have hstimLow : (afterLow n s).stim = Stim.high m ++ Stim.sample .low :: (vs ++ rest) :=
      hrunLow.stim_eq (by simp [hstim])
    have hrunHigh : RunsOver (Stim.high m ++ [Stim.sample .low]) (afterLow n s) (afterPair n m s) :=
      hs.runsOver_high hp40 hstimLow isSample_of_mem_replicate ⟨rfl, rfl⟩ List.length_replicate
        hhighC
    have hstimHigh : (afterPair n m s).stim = vs ++ rest := hrunHigh.stim_eq (by simp [hstimLow])
    obtain ⟨t, hrun, hcap⟩ := ih (hs.next hp40 n m) (by omega) hpairs hvs.symm hstimHigh
    exact ⟨t, by simpa using (hrunLow.trans hrunHigh).trans hrun, hs.capturedFrom_cons hp40 hcap⟩

theorem Stim.length_capture (r : Nat) (pairs : List (Nat × Nat)) :
    (Stim.capture r pairs).length = r + (pairs.map fun q => q.1 + q.2).sum + 1 := by
  simp [Stim.capture, Stim.pair, Stim.high, Stim.low, List.length_flatMap, Nat.add_assoc]

/-- Settles O21: the release wait is counted, then each pair is captured. -/
theorem wellTimedSequenceIsCaptured : Obligations.WellTimedSequenceIsCaptured := by
  intro s r pairs rest hc hst hcnt hhsum hr hlen hrange hstim
  obtain ⟨us, hus⟩ := Stim.pairsEnd_eq_low_cons hrange
  have hcapture : Stim.capture r pairs = Stim.high r ++ [Stim.sample .low] ++ us := by
    simp [Stim.capture_eq, hus]
  have hrunRelease : RunsOver (Stim.high r ++ [Stim.sample .low]) s (afterRelease r s) := by
    have hrun := runsOver_afterRelease (as := Stim.high r) (rest := us ++ rest) hc hst
      (by simp [hstim, hcapture]) isSample_of_mem_replicate (j := Stim.sample .low) ⟨rfl, rfl⟩
      (by simp [hcnt, Stim.high, hr])
    simpa [Stim.high] using hrun
  have hstimPairs : (afterRelease r s).stim = us ++ rest :=
    hrunRelease.stim_eq (by simp [hstim, hcapture])
  obtain ⟨t, hrunPairs, hcap⟩ := (atPair_afterRelease hc r).runsOver_pairs (by simpa using hlen)
    hrange hus.symm hstimPairs
  have hrun := hrunRelease.trans hrunPairs
  rw [← hcapture] at hrun
  refine ⟨t, Stim.length_capture r pairs ▸ hrun.2, hcap.st, hrun.stim_eq hstim, hcap.done,
    fun k hk => ?_, ?_, ?_⟩
  · simpa using hcap.stored k hk
  · simpa [afterRelease, countSamples, hhsum] using hcap.hsum
  · simpa [State.decodeAndOutcome, afterRelease, countSamples] using hcap.decodeAndOutcome

/-! ### Any sequence (R96, R99) -/

theorem Stim.noReset_append : Stim.noReset (us ++ as) = (Stim.noReset us && Stim.noReset as) :=
  List.all_append

/-- The ticks still to come after a run are without `rst` where the ticks before it were. -/
theorem RunsOver.noReset (h : RunsOver us s t) (hr : Stim.noReset s.stim = true) :
    Stim.noReset t.stim = true := by
  rw [h.1, Stim.noReset_append, Bool.and_eq_true] at hr
  exact hr.2

theorem RunsOver.length_stim (h : RunsOver us s t) : s.stim.length = us.length + t.stim.length := by
  rw [h.1, List.length_append]

/-- Samples at one level show that level. -/
theorem lines_eq_replicate {l : Level} (h : ∀ i ∈ us, IsSample l i) :
    Stim.lines us = List.replicate us.length l := by
  rw [Stim.lines, List.map_eq_replicate_iff]
  exact fun i hi => (h i hi).2

theorem Stim.lines_append (us vs : List Tick) :
    Stim.lines (us ++ vs) = Stim.lines us ++ Stim.lines vs :=
  List.map_append

@[simp] theorem Stim.sample_line (l : Level) : (Stim.sample l).line = l := rfl

@[simp] theorem Stim.lines_nil : Stim.lines [] = [] := rfl

@[simp] theorem Stim.lines_cons (i : Tick) (us : List Tick) :
    Stim.lines (i :: us) = i.line :: Stim.lines us := rfl

theorem Stim.lines_replicate (n : Nat) (l : Level) :
    Stim.lines (List.replicate n (Stim.sample l)) = List.replicate n l :=
  List.map_replicate

/-- The Low phase of a pair times out or ends in range. -/
theorem AtPair.low_ends (hs : AtPair p s) (hp : p ≤ 40) (hr : Stim.noReset s.stim = true)
    (hlen : s.cfg.ceiling ≤ s.stim.length) :
    (∃ us t, RunsOver us s t ∧ t.TimedOut ∧ us.length = s.cfg.ceiling) ∨
      ∃ as j, RunsOver (as ++ [j]) s (afterLow as.length s) ∧ (∀ i ∈ as, IsSample .low i) ∧
        IsSample .high j ∧ as.length + 1 ≤ s.cfg.ceiling := by
  have hceil := hs.usable.1.1
  have hst := hs.st_capLow hp
  have hcnt := hs.cnt hp
  have hlevel : s.phaseLevel = .low := if_pos hst
  have hends := phase_ends hs.usable (waiting_iff.2 (.inr (.inl hst))) (hcnt ▸ hceil) hr
    (by rw [hcnt]; exact hlen)
  rw [hlevel, hcnt] at hends
  refine hends.imp_right fun ⟨as, j, rest, hstim, has, hj, hle⟩ => ?_
  have hle' : as.length + 1 ≤ s.cfg.ceiling := (Nat.add_comm _ _).trans_le hle
  exact ⟨as, j, hs.runsOver_low hp hstim has hj rfl hle', has, hj, hle'⟩

/-- The High phase of a pair times out or ends in range. -/
theorem AtPair.high_ends {n : Nat} (hs : AtPair p s) (hp : p ≤ 40)
    (hr : Stim.noReset (afterLow n s).stim = true)
    (hlen : s.cfg.ceiling ≤ (afterLow n s).stim.length) :
    (∃ us t, RunsOver us (afterLow n s) t ∧ t.TimedOut ∧ us.length = s.cfg.ceiling) ∨
      ∃ as j, RunsOver (as ++ [j]) (afterLow n s) (afterPair n as.length s) ∧
        (∀ i ∈ as, IsSample .high i) ∧ IsSample .low j ∧ as.length + 1 ≤ s.cfg.ceiling := by
  have hends := phase_ends (s := afterLow n s) hs.usable rfl hs.usable.1.1 hr hlen
  refine hends.imp_right fun ⟨as, j, rest, hstim, has, hj, hle⟩ => ?_
  have hle' : as.length + 1 ≤ s.cfg.ceiling := (Nat.add_comm _ _).trans_le hle
  exact ⟨as, j, hs.runsOver_high hp hstim has hj rfl hle', has, hj, hle'⟩

/-- A pair, begun with its first Low, times out or ends in range with the first Low after it. -/
theorem AtPair.pair_ends (hs : AtPair p s) (hp : p ≤ 40) (hr : Stim.noReset s.stim = true)
    (hlen : 2 * s.cfg.ceiling ≤ s.stim.length) :
    (∃ us t, RunsOver us s t ∧ t.TimedOut ∧ us.length ≤ 2 * s.cfg.ceiling) ∨
      ∃ us n m, RunsOver us s (afterPair n m s) ∧ us.length ≤ 2 * s.cfg.ceiling ∧
        n + 1 ≤ s.cfg.ceiling ∧ m + 1 ≤ s.cfg.ceiling ∧
        .low :: Stim.lines us = Stim.lines (Stim.pair (n + 1) (m + 1)) ++ [.low] := by
  rcases hs.low_ends hp hr (by omega) with ⟨us, t, hrun, hto, hle⟩ | ⟨as, j, hlow, has, hj, hasC⟩
  · exact .inl ⟨us, t, hrun, hto, by omega⟩
  have hleft := hlow.length_stim
  rw [List.length_append, List.length_singleton] at hleft
  rcases hs.high_ends hp (hlow.noReset hr) (by omega) with
    ⟨us, t, hrun, hto, hle⟩ | ⟨bs, j', hhigh, hbs, hj', hbsC⟩
  · exact .inl ⟨_, t, hlow.trans hrun, hto, by simp; omega⟩
  · refine .inr ⟨_, as.length, bs.length, hlow.trans hhigh, by simp; omega, hasC, hbsC, ?_⟩
    simp [Stim.lines_append, lines_eq_replicate has, lines_eq_replicate hbs, hj.2, hj'.2, Stim.pair,
      Stim.low, Stim.high, Stim.lines_replicate, List.replicate_succ]

theorem Stim.lines_pairsEnd_cons (q : Nat × Nat) (pairs : List (Nat × Nat)) :
    Stim.lines (Stim.pairsEnd (q :: pairs)) =
      Stim.lines (Stim.pair q.1 q.2) ++ Stim.lines (Stim.pairsEnd pairs) := by
  simp [Stim.pairsEnd, Stim.lines_append]

/-- From the first Low of pair `p`, with ticks enough for the `k` pairs that are left, the capture is
completed or times out. -/
theorem AtPair.ends {k : Nat} (hs : AtPair p s) (hp : p + k = 41)
    (hr : Stim.noReset s.stim = true) (hlen : k * (2 * s.cfg.ceiling) ≤ s.stim.length) :
    ∃ us t, RunsOver us s t ∧ us.length ≤ k * (2 * s.cfg.ceiling) ∧
      ((∃ pairs, pairs.length = k ∧ PairsInRange s.cfg.ceiling pairs ∧
        .low :: Stim.lines us = Stim.lines (Stim.pairsEnd pairs) ∧ CapturedFrom p pairs s t) ∨
      t.TimedOut) := by
  induction k generalizing p s with
  | zero =>
    obtain rfl : p = 41 := hp
    exact ⟨[], s, RunsOver.refl s, Nat.zero_le _,
      .inl ⟨[], rfl, List.forall_mem_nil _, rfl, hs.capturedFrom_nil⟩⟩
  | succ k ih =>
    have hp40 : p ≤ 40 := by omega
    rw [Nat.succ_mul] at hlen ⊢
    rcases hs.pair_ends hp40 hr (by omega) with
      ⟨us, t, hrun, hto, hle⟩ | ⟨us, n, m, hpair, hle, hn, hm, hlines⟩
    · exact ⟨us, t, hrun, by omega, .inr hto⟩
    have hleft := hpair.length_stim
    have hmore : k * (2 * s.cfg.ceiling) ≤ (afterPair n m s).stim.length := by omega
    obtain ⟨vs, t, hrun, hle', hend⟩ :=
      ih (hs.next hp40 n m) (by omega) (hpair.noReset hr) hmore
    refine ⟨us ++ vs, t, hpair.trans hrun, ?_, hend.imp_left ?_⟩
    · rw [List.length_append, Nat.add_comm]; exact Nat.add_le_add hle' hle
    rintro ⟨pairs, rfl, hrange, hlines', hcap⟩
    refine ⟨(n + 1, m + 1) :: pairs, rfl,
      List.forall_mem_cons.2 ⟨⟨⟨Nat.succ_pos n, hn⟩, Nat.succ_pos m, hm⟩, hrange⟩, ?_,
      hs.capturedFrom_cons hp40 hcap⟩
    rw [Stim.lines_pairsEnd_cons, ← hlines', Stim.lines_append, ← List.cons_append, hlines]
    simp

/-- Settles O22: the release wait ends or times out, and so does each pair after it. -/
theorem everySequenceIsCapturedOrTimesOut : Obligations.EverySequenceIsCapturedOrTimesOut := by
  intro s hc hst hcnt hr hlen
  have hlevel : s.phaseLevel = .high := by simp [State.phaseLevel, hst]
  have hends := phase_ends hc (waiting_iff.2 (.inl hst)) (by omega) hr (by omega)
  rw [hlevel, hcnt] at hends
  rcases hends with ⟨us, t, hrun, hto, hle⟩ | ⟨as, j, rest, hstim, has, hj, hle⟩
  · exact ⟨us.length, t, by omega, hrun.2, .inr hto⟩
  have hrelease := runsOver_afterRelease hc hst hstim has hj (by omega)
  have hleft := hrelease.length_stim
  rw [List.length_append, List.length_singleton] at hleft
  obtain ⟨us, t, hrun, hle', hend⟩ := (atPair_afterRelease hc as.length).ends (k := 41) rfl
    (hrelease.noReset hr) (show 41 * (2 * s.cfg.ceiling) ≤ _ by omega)
  change us.length ≤ 41 * (2 * s.cfg.ceiling) at hle'
  have hwhole := hrelease.trans hrun
  refine ⟨_, t, by simp; omega, hwhole.2, hend.imp_left ?_⟩
  rintro ⟨pairs, hpairs, hrange, hlines, hcap⟩
  refine ⟨hcap.st, as.length, pairs, by omega, hpairs, hrange, ?_, fun k hk => ?_⟩
  · rw [hwhole.1, List.take_left, Stim.capture_eq]
    simp [Stim.lines_append, lines_eq_replicate has, hj.2, Level.flip, ← hlines, Stim.high,
      Stim.lines_replicate]
  · simpa using hcap.stored k hk

end Sys2Proof.Machine
end

section
/-!
The bit decoder of 42_decode.md: THRESH (R106), one data bit of PACK (R107, R108), and the record of the bits
packed so far, which every step keeps (R112).
-/

namespace Sys2Proof.Machine

variable {s t : State} {fb₀ : Vector Byte 5} {n : Nat}

/-! ### One tick (R106, R107) -/

/-- Settles O24: the named operation of THRESH is the record update of R106. -/
theorem threshLatchesTheSum : Obligations.ThreshLatchesTheSum := fun _ => rfl

theorem exec_pack_of_le (hk : s.kidx.toNat ≤ 39) :
    ∃ d b, s.slot[dataSlot s.kidx]? = some d ∧ s.fb[byteIndex s.kidx]? = some b ∧
      exec .pack s = .next (packBit d b s) :=
  ⟨_, _, Vector.getElem?_eq_getElem (by unfold dataSlot; omega),
    Vector.getElem?_eq_getElem (by unfold byteIndex; omega),
    by simp only [exec, execPack, packOperands_of_le hk]⟩

theorem exec_pack_of_gt (hk : 39 < s.kidx.toNat) :
    exec .pack s = .fault (.storageIndex (dataSlot s.kidx)) := by
  simp only [exec, execPack, packOperands_of_gt hk]

theorem kidx_eq_last_iff (k : BitVec 6) : k = 39#6 ↔ k.toNat = 39 :=
  BitVec.toNat_inj.symm

/-- Before the last data bit PACK goes on to the next. -/
theorem packBit_kidx_toNat (d : Nat) (b : Byte) (hk : s.kidx.toNat ≤ 39) :
    (packBit d b s).kidx.toNat = if s.kidx.toNat = 39 then 39 else s.kidx.toNat + 1 := by
  simp only [packBit_kidx, kidx_eq_last_iff]
  split
  · assumption
  · bv_omega

theorem shiftIn_classify (b : Byte) (d thr : Nat) :
    shiftIn b (classify d thr) = (b <<< 1) ||| (if thr ≤ 40 * d then 1#8 else 0#8) := by
  simp [shiftIn, classify]

/-- Settles O25: inside the frame both operands exist and `packBit` writes what R107 says; outside it the slot
does not exist. -/
theorem packShiftsOneBit : Obligations.PackShiftsOneBit := by
  refine ⟨fun s hk => ?_, fun s hk => exec_pack_of_gt hk⟩
  obtain ⟨d, b, hd, hb, hexec⟩ := exec_pack_of_le hk
  refine ⟨_, d, b, shiftIn b (classify d s.thr), hd, hb, shiftIn_classify b d s.thr, hexec, ?_,
    packBit_kidx_toNat d b hk, fb_set_getElem s.fb (byteIndex s.kidx) _⟩
  simp only [packBit, kidx_eq_last_iff]
  rfl

/-! ### The bits of a byte (R107, R112) -/

/-- The byte `b` after the first `m` data bits of frame byte `j` were shifted into it. -/
def packedOnto (b : Byte) (slot : Vector Nat 82) (thr j : Nat) : Nat → Byte
  | 0 => b
  | m + 1 => shiftIn (packedOnto b slot thr j m) (classify (dataDuration slot (8 * j + m)) thr)

/-- A frame byte as the record of the decoder counts it begins at 0, as START leaves it. -/
theorem packedOnto_zero (slot : Vector Nat 82) (thr j m : Nat) :
    packedOnto 0#8 slot thr j m = packedByte slot thr j m := by
  induction m with
  | zero => rfl
  | succ m ih => rw [packedOnto, packedByte, ih]

/-- Writing a later byte leaves the sum of the first `n`. -/
theorem bytePrefixSum_setIfInBounds (fb : Vector Byte 5) {i : Nat} (x : Byte) (h : n ≤ i) :
    bytePrefixSum (fb.setIfInBounds i x) n = bytePrefixSum fb n := by
  induction n with
  | zero => rfl
  | succ n ih =>
    rw [bytePrefixSum, bytePrefixSum, ih (Nat.le_of_succ_le h),
      Vector.getElem?_setIfInBounds_ne (Nat.ne_of_gt h)]

theorem bytePrefixSum_four (fb : Vector Byte 5) : bytePrefixSum fb 4 = payloadSum fb := by
  simp [bytePrefixSum, payloadSum]

/-- In `s` the first `n` data bits were shifted into the bytes of `fb₀`, and `csum` is the sum of the completed
bytes among 0 to 3. -/
structure State.PackedBits (fb₀ : Vector Byte 5) (n : Nat) (s : State) : Prop where
  bytes : ∀ j (h : j < 5), s.fb[j] = packedOnto fb₀[j] s.slot s.thr j (min 8 (n - 8 * j))
  sum : s.csum = bytePrefixSum s.fb (min 4 (n / 8))

/-- THRESH begins with no data bit packed. -/
theorem packedBits_latchThreshold (hcsum : s.csum = 0#8) :
    (latchThreshold s).advance.PackedBits s.fb 0 where
  bytes j _ := by rw [Nat.zero_sub, Nat.min_zero]; rfl
  sum := hcsum

/-- PACK shifts the next data bit into its byte and leaves the other bytes. -/
theorem State.PackedBits.bytes_packBit {d : Nat} {b : Byte} (h : s.PackedBits fb₀ s.kidx.toNat)
    (hd : s.slot[dataSlot s.kidx]? = some d) (hb : s.fb[byteIndex s.kidx]? = some b)
    (j : Nat) (hj : j < 5) :
    (packBit d b s).fb[j] =
      packedOnto fb₀[j] s.slot s.thr j (min 8 (s.kidx.toNat + 1 - 8 * j)) := by
  rw [packBit_fb, fb_set_getElem]
  split
  case isTrue hown =>
    subst hown
    have hcount : min 8 (s.kidx.toNat + 1 - 8 * byteIndex s.kidx) = s.kidx.toNat % 8 + 1 := by
      unfold byteIndex; omega
    have hcount' : min 8 (s.kidx.toNat - 8 * byteIndex s.kidx) = s.kidx.toNat % 8 := by
      unfold byteIndex; omega
    have hdur : dataDuration s.slot (8 * byteIndex s.kidx + s.kidx.toNat % 8) = d := by
      rw [byteIndex, Nat.div_add_mod]
      exact congrArg (Option.getD · 0) hd
    have hbyte : s.fb[byteIndex s.kidx] = b := by simpa [hj] using hb
    rw [hcount, packedOnto, hdur, ← hcount', ← h.bytes _ hj, hbyte]
  case isFalse hother =>
    have hcount : min 8 (s.kidx.toNat + 1 - 8 * j) = min 8 (s.kidx.toNat - 8 * j) := by
      unfold byteIndex at hother; omega
    rw [hcount, h.bytes j hj]

/-- PACK adds its byte to `csum` when it completes one of bytes 0 to 3. -/
theorem State.PackedBits.sum_packBit {d : Nat} {b : Byte} (h : s.PackedBits fb₀ s.kidx.toNat) :
    (packBit d b s).csum =
      bytePrefixSum (packBit d b s).fb (min 4 ((s.kidx.toNat + 1) / 8)) := by
  have hearlier : bytePrefixSum (packBit d b s).fb (min 4 (s.kidx.toNat / 8)) = s.csum :=
    (bytePrefixSum_setIfInBounds _ _ (Nat.min_le_right _ _)).trans h.sum.symm
  rw [packBit_csum]
  split
  case isTrue hcomplete =>
    obtain ⟨hlast, hbyte⟩ := hcomplete
    have hown : min 4 (s.kidx.toNat / 8) = byteIndex s.kidx := by
      unfold byteIndex at *; omega
    have hcount : min 4 ((s.kidx.toNat + 1) / 8) = byteIndex s.kidx + 1 := by
      unfold byteIndex at *; omega
    rw [hown] at hearlier
    have hj : byteIndex s.kidx < 5 := by omega
    rw [hcount, bytePrefixSum, hearlier]
    simp [hj]
  case isFalse hcomplete =>
    have hcount : min 4 ((s.kidx.toNat + 1) / 8) = min 4 (s.kidx.toNat / 8) := by
      unfold byteIndex at hcomplete; omega
    rw [hcount, hearlier]

theorem State.PackedBits.packBit_advance {d : Nat} {b : Byte} (h : s.PackedBits fb₀ s.kidx.toNat)
    (hd : s.slot[dataSlot s.kidx]? = some d) (hb : s.fb[byteIndex s.kidx]? = some b) :
    (packBit d b s).advance.PackedBits fb₀ (s.kidx.toNat + 1) where
  bytes := h.bytes_packBit hd hb
  sum := h.sum_packBit

/-! ### The record of the decoder -/

/-- The record in PACK, as the number of data bits packed. -/
theorem State.DecodeRecord.packedBits (hrec : s.DecodeRecord) (hst : s.st = St.pack) :
    s.PackedBits (Vector.replicate 5 0#8) s.kidx.toNat where
  bytes := by simpa [packedOnto_zero] using hrec.packing hst
  sum := hrec.summing hst

theorem State.PackedBits.bytes_eq (h : s.PackedBits (Vector.replicate 5 0#8) n) (j : Nat)
    (hj : j < 5) : s.fb[j] = packedByte s.slot s.thr j (min 8 (n - 8 * j)) := by
  simpa [packedOnto_zero] using h.bytes j hj

/-- After 40 data bits each byte has all its eight. -/
theorem State.PackedBits.bytes_complete (h : s.PackedBits fb₀ 40) (j : Nat) (hj : j < 5) :
    s.fb[j] = packedOnto fb₀[j] s.slot s.thr j 8 := by
  have hcount : min 8 (40 - 8 * j) = 8 := by omega
  rw [h.bytes j hj, hcount]

theorem State.PackedBits.sum_complete (h : s.PackedBits fb₀ 40) : s.csum = payloadSum s.fb :=
  h.sum.trans (bytePrefixSum_four s.fb)

/-- The bytes and `csum` are as START left them up to THRESH. -/
theorem StepCase.before (h : StepCase s t) (hrec : s.DecodeRecord)
    (ht : t.st = St.wakeHigh ∨ t.st = St.startLow ∨ t.st = St.releaseWait ∨ t.st = St.capLow ∨
      t.st = St.capHigh ∨ t.st = St.thresh) :
    t.fb = Vector.replicate 5 0#8 ∧ t.csum = 0#8 := by
  cases h with
  | start => exact ⟨rfl, rfl⟩
  | idle | wakeCount | lowCount | count => exact hrec.before ht
  | wakeEnd _ hst | lowEnd _ hst | releaseEnd _ hst | lowPhase _ hst | highPhase _ hst =>
    exact hrec.before (by simp [hst])
  | _ => simp_all [ite_eq_iff]

/-- Only THRESH and PACK lead to PACK or CHECK. -/
theorem StepCase.decoding (h : StepCase s t) (ht : t.st = St.pack ∨ t.st = St.check) :
    s.st = St.thresh ∧ t = (latchThreshold s).advance ∨
      s.st = St.pack ∧ s.kidx.toNat ≤ 39 ∧ ∃ d b, s.slot[dataSlot s.kidx]? = some d ∧
        s.fb[byteIndex s.kidx]? = some b ∧ t = (packBit d b s).advance := by
  cases h with
  | thresh _ hst => exact .inl ⟨hst, rfl⟩
  | pack _ hst hk d b hd hb => exact .inr ⟨hst, hk, d, b, hd, hb, rfl⟩
  | count _ hw =>
    rcases waiting_cases hw with ⟨hst, -⟩ | ⟨hst, -⟩ | ⟨hst, -⟩ <;> simp [hst] at ht
  | highPhase =>
    rcases ht with ht | ht <;> exact absurd ht (highPhaseEnd_st_ne (by decide) (by decide))
  | idle _ hst | wakeCount _ hst | lowCount _ hst => simp [hst] at ht
  | _ => simp at ht

theorem StepCase.threshold (h : StepCase s t) (hrec : s.DecodeRecord)
    (ht : t.st = St.pack ∨ t.st = St.check) : t.thr = t.hsum := by
  rcases h.decoding ht with ⟨-, rfl⟩ | ⟨hst, -, d, b, -, -, rfl⟩
  · rfl
  · exact hrec.threshold (.inl hst)

/-- PACK begins with no data bit packed, and a tick that stays in it packs one. -/
theorem StepCase.packedBits (h : StepCase s t) (hrec : s.DecodeRecord) (ht : t.st = St.pack) :
    t.PackedBits (Vector.replicate 5 0#8) t.kidx.toNat := by
  rcases h.decoding (.inl ht) with ⟨hst, rfl⟩ | ⟨hst, hk, d, b, hd, hb, rfl⟩
  · obtain ⟨hfb, hcsum⟩ := hrec.before (by simp [hst])
    exact hfb ▸ packedBits_latchThreshold hcsum
  · have hlast : s.kidx.toNat ≠ 39 := fun hlast => by
      simp [(kidx_eq_last_iff s.kidx).2 hlast] at ht
    rw [State.advance_kidx, packBit_kidx_toNat d b hk, if_neg hlast]
    exact (hrec.packedBits hst).packBit_advance hd hb

/-- CHECK begins with all 40 data bits packed. -/
theorem StepCase.packedBits_check (h : StepCase s t) (hrec : s.DecodeRecord)
    (ht : t.st = St.check) : t.PackedBits (Vector.replicate 5 0#8) 40 := by
  rcases h.decoding (.inr ht) with ⟨-, rfl⟩ | ⟨hst, -, d, b, hd, hb, rfl⟩
  · simp at ht
  · have hlast : s.kidx.toNat = 39 := by
      by_contra hlast
      simp [kidx_eq_last_iff, hlast, hst] at ht
    have hbits := (hrec.packedBits hst).packBit_advance hd hb
    rwa [hlast] at hbits

theorem StepCase.decodeRecord (h : StepCase s t) (hrec : s.DecodeRecord) : t.DecodeRecord where
  before := h.before hrec
  threshold := h.threshold hrec
  packing ht := (h.packedBits hrec ht).bytes_eq
  summing ht := (h.packedBits hrec ht).sum
  packed ht j hj := by
    have hbyte := (h.packedBits_check hrec ht).bytes_complete j hj
    simpa [packedOnto_zero] using hbyte
  summed ht := (h.packedBits_check hrec ht).sum_complete

/-- Settles O44: each clause is kept by each case of a step; only THRESH and PACK touch what it speaks of. -/
theorem decodeRecordKeptByEveryStep : Obligations.DecodeRecordKeptByEveryStep :=
  fun _ _ _ hrec hstep => (step_cases hstep).2.decodeRecord hrec

end Sys2Proof.Machine
end

section
/-!
The frame of 42_decode.md R112: eight shifts replace whatever a byte held, so after THRESH and the 40 ticks of
PACK each byte is the weighted sum of its classified bits.
-/

namespace Sys2Proof.Machine

variable {s t : State} {fb₀ : Vector Byte 5} {ts rest : List Tick}

/-! ### A byte as a weighted sum -/

theorem shiftIn_toNat (b : Byte) (bit : Bool) :
    (shiftIn b bit).toNat = (2 * b.toNat + bit.toNat) % 256 := by
  have hdisjoint : b <<< 1 &&& (if bit then 1#8 else 0#8) = 0#8 := by
    ext i; cases bit <;> cases i <;> simp
  rw [shiftIn, ← BitVec.add_eq_or_of_and_eq_zero _ _ hdisjoint]
  cases bit <;> simp [BitVec.toNat_add, BitVec.toNat_shiftLeft, Nat.shiftLeft_eq, Nat.mul_comm]

/-- Data bit `k` as 0 or 1 (R108). -/
def dataBit (slot : Vector Nat 82) (thr k : Nat) : Nat :=
  if thr ≤ 40 * dataDuration slot k then 1 else 0

theorem classify_toNat (slot : Vector Nat 82) (thr k : Nat) :
    (classify (dataDuration slot k) thr).toNat = dataBit slot thr k := by
  simp [classify, dataBit, Bool.toNat, Bool.cond_decide]

/-- The first `m` data bits of frame byte `j`, most significant first. -/
def bitSum (slot : Vector Nat 82) (thr j m : Nat) : Nat :=
  ∑ i ∈ Finset.range m, dataBit slot thr (8 * j + i) * 2 ^ (m - 1 - i)

theorem bitSum_succ (slot : Vector Nat 82) (thr j m : Nat) :
    bitSum slot thr j (m + 1) = 2 * bitSum slot thr j m + dataBit slot thr (8 * j + m) := by
  rw [bitSum, bitSum, Finset.sum_range_succ, Finset.mul_sum]
  congr 1
  · refine Finset.sum_congr rfl fun i hi => ?_
    have hexp : m + 1 - 1 - i = m - 1 - i + 1 := by have := Finset.mem_range.1 hi; omega
    rw [hexp, pow_succ']
    ring
  · simp

/-- Each shift doubles the byte, so its old bits move up and out. -/
theorem packedOnto_toNat (b : Byte) (slot : Vector Nat 82) (thr j m : Nat) :
    (packedOnto b slot thr j m).toNat = (b.toNat * 2 ^ m + bitSum slot thr j m) % 256 := by
  induction m with
  | zero => simp [packedOnto, bitSum, Nat.mod_eq_of_lt b.isLt]
  | succ m ih =>
    rw [packedOnto, shiftIn_toNat, ih, classify_toNat, bitSum_succ, pow_succ]
    generalize 2 ^ m = p
    have : b.toNat * (p * 2) = 2 * (b.toNat * p) := by ring
    omega

theorem bitSum_eight_lt (slot : Vector Nat 82) (thr j : Nat) : bitSum slot thr j 8 < 256 := by
  have hbit : ∀ k, dataBit slot thr k ≤ 1 := fun k => by unfold dataBit; split <;> decide
  calc bitSum slot thr j 8
      ≤ ∑ i ∈ Finset.range 8, 1 * 2 ^ (8 - 1 - i) :=
        Finset.sum_le_sum fun _ _ => Nat.mul_le_mul_right _ (hbit _)
    _ < 256 := by decide

/-- After eight shifts nothing of the old byte is left. -/
theorem packedOnto_eight_toNat (b : Byte) (slot : Vector Nat 82) (thr j : Nat) :
    (packedOnto b slot thr j 8).toNat = bitSum slot thr j 8 := by
  have hlt := bitSum_eight_lt slot thr j
  rw [packedOnto_toNat]
  omega

/-! ### The 40 ticks of PACK -/

/-- At `t` the bits that PACK finds at `s` are in the bytes of `fb₀`, and nothing else has changed. -/
structure PackedFrom (fb₀ : Vector Byte 5) (s t : State) : Prop where
  st : t.st = St.check
  bits : t.PackedBits fb₀ 40
  thr : t.thr = s.thr
  slot : t.slot = s.slot
  done : t.done = false
  outcome : s.SameOutcome t

/-- From any data bit on, PACK comes to CHECK with the frame complete. -/
theorem runsOver_pack (hc : s.cfg.Usable) (hst : s.st = St.pack) (hk : s.kidx.toNat ≤ 39)
    (hbits : s.PackedBits fb₀ s.kidx.toNat) (hlen : s.kidx.toNat + ts.length = 40)
    (hr : Stim.noReset ts = true) (hstim : s.stim = ts ++ rest) :
    ∃ t, RunsOver ts s t ∧ PackedFrom fb₀ s t := by
  induction ts generalizing s with
  | nil => simp at hlen; omega
  | cons i ts ih =>
    rw [List.length_cons] at hlen
    obtain ⟨hi, hts⟩ : i.rst = false ∧ Stim.noReset ts = true := by simpa [Stim.noReset] using hr
    obtain ⟨d, b, hd, hb, hexec⟩ := exec_pack_of_le hk
    have hin : s.inputs = i := inputs_of_cons hstim
    have htick := RunsOver.of_step hstim (step_of_exec hc (hin ▸ hi) hst hexec)
    have hnext := hbits.packBit_advance hd hb
    have hkidx := packBit_kidx_toNat d b hk
    by_cases hlast : s.kidx.toNat = 39
    · obtain rfl : ts = [] := List.eq_nil_of_length_eq_zero (by omega)
      rw [hlast] at hnext
      exact ⟨_, htick, if_pos ((kidx_eq_last_iff _).2 hlast), hnext, rfl, rfl, rfl,
        rfl, rfl, rfl, rfl, rfl⟩
    · rw [if_neg hlast] at hkidx
      have hstay : (packBit d b s).st = St.pack :=
        (if_neg fun h => hlast ((kidx_eq_last_iff _).1 h)).trans hst
      obtain ⟨t, hrun, ht⟩ := ih (s := (packBit d b s).advance) hc hstay
        (by rw [State.advance_kidx]; omega) (by rwa [State.advance_kidx, hkidx])
        (by rw [State.advance_kidx]; omega) hts (by simp [hstim])
      exact ⟨t, htick.trans hrun, ht.st, ht.bits, ht.thr, ht.slot, ht.done, ht.outcome⟩

/-- THRESH, then the 40 ticks of PACK. -/
theorem runsOver_decode (hc : s.cfg.Usable) (hst : s.st = St.thresh) (hcsum : s.csum = 0#8)
    (hlen : ts.length = 41) (hr : Stim.noReset ts = true) (hstim : s.stim = ts ++ rest) :
    ∃ t, RunsOver ts s t ∧ PackedFrom s.fb (latchThreshold s) t := by
  obtain ⟨i, ts, rfl⟩ := List.exists_cons_of_length_eq_add_one hlen
  obtain ⟨hi, hts⟩ : i.rst = false ∧ Stim.noReset ts = true := by simpa [Stim.noReset] using hr
  have hin : s.inputs = i := inputs_of_cons hstim
  have htick := RunsOver.of_step hstim
    (step_of_exec (u := latchThreshold s) hc (hin ▸ hi) hst rfl)
  obtain ⟨t, hrun, ht⟩ := runsOver_pack (s := (latchThreshold s).advance) (ts := ts) (rest := rest)
    hc rfl (Nat.zero_le _) (packedBits_latchThreshold hcsum) (by simpa using hlen) hts
    (by simp [hstim])
  exact ⟨t, htick.trans hrun, ht.st, ht.bits, ht.thr, ht.slot, ht.done, ht.outcome⟩

theorem payloadSum_toNat (fb : Vector Byte 5) :
    (payloadSum fb).toNat =
      (fb[0].toNat + fb[1].toNat + fb[2].toNat + fb[3].toNat) % 256 := by
  simp [payloadSum, BitVec.toNat_add]

/-- Settles O26: the run ends with 40 data bits packed, and a byte of eight bits is their weighted sum. -/
theorem packedFrameAfterFortySteps : Obligations.PackedFrameAfterFortySteps := by
  intro s ts rest hc hst hcsum hstim hlen hr
  obtain ⟨t, hrun, hst', hbits, hthr, hslot, hdone, houtcome⟩ :=
    runsOver_decode hc hst hcsum hlen hr hstim
  rw [latchThreshold_thr] at hthr
  rw [latchThreshold_slot] at hslot
  refine ⟨t, hlen ▸ hrun.2, hst', hrun.stim_eq hstim, hthr, fun j hj => ?_,
    hbits.sum_complete ▸ payloadSum_toNat t.fb, hslot, hdone, houtcome⟩
  rw [hbits.bytes_complete j hj, packedOnto_eight_toNat, hthr, hslot]
  rfl

end Sys2Proof.Machine
end

section
/-!
The classification law over a whole frame (42_decode.md R108, R110, R111): the threshold is the sum of the 40
durations, so a bit is 1 exactly when its duration is at least their mean.
-/

namespace Sys2Proof.Machine

variable {s : State}

theorem dataSum_eq_sum (slot : Vector Nat 82) (m : Nat) :
    dataSum slot m = ∑ k ∈ Finset.range m, dataDuration slot k := by
  induction m with
  | zero => rfl
  | succ m ih => rw [dataSum, ih, Finset.sum_range_succ]

theorem classify_eq_true_iff (d thr : Nat) : classify d thr = true ↔ thr ≤ 40 * d :=
  decide_eq_true_iff

theorem classify_eq_false_iff (d thr : Nat) : classify d thr = false ↔ 40 * d < thr := by
  simp [classify]

/-- A duration that no other exceeds is at least the mean. -/
theorem classify_of_max {slot : Vector Nat 82} {d : Nat} (h : ∀ k < 40, dataDuration slot k ≤ d) :
    classify d (dataSum slot 40) = true := by
  rw [classify_eq_true_iff, dataSum_eq_sum]
  simpa using Finset.sum_le_card_nsmul (Finset.range 40) (dataDuration slot) d
    fun k hk => h k (Finset.mem_range.1 hk)

/-- A duration that some other exceeds and none is below is less than the mean. -/
theorem classify_of_min {slot : Vector Nat 82} {d : Nat} (h : ∀ k < 40, d ≤ dataDuration slot k)
    (hlong : ∃ k < 40, d < dataDuration slot k) : classify d (dataSum slot 40) = false := by
  obtain ⟨k, hk, hlt⟩ := hlong
  rw [classify_eq_false_iff, dataSum_eq_sum]
  simpa using Finset.sum_lt_sum (s := Finset.range 40) (f := fun _ => d)
    (fun k hk => h k (Finset.mem_range.1 hk)) ⟨k, Finset.mem_range.2 hk, hlt⟩

/-- Settles O27: the long durations are the maximum; the short ones are the minimum when a long one exists, and
else the maximum. -/
theorem uniformFrameDecodes : Obligations.UniformFrameDecodes := by
  intro slot bit short long hlt hdur
  refine ⟨fun ⟨k₁, hk₁, hone⟩ k hk => ?_, fun hnone k hk => ?_⟩
  · have hlong : ∀ k < 40, dataDuration slot k ≤ long := fun k hk => by
      rw [hdur k hk]; split <;> omega
    have hshort : ∀ k < 40, short ≤ dataDuration slot k := fun k hk => by
      rw [hdur k hk]; split <;> omega
    have hexceeds : short < dataDuration slot k₁ := by simpa [hdur k₁ hk₁, hone] using hlt
    rw [hdur k hk]
    cases bit k with
    | true => exact classify_of_max hlong
    | false => exact classify_of_min hshort ⟨k₁, hk₁, hexceeds⟩
  · have hall : ∀ k < 40, dataDuration slot k = short := fun k hk => by simp [hdur k hk, hnone k hk]
    rw [hall k hk]
    exact classify_of_max fun k hk => (hall k hk).le

/-- Not all of 40 durations are below their mean. -/
theorem exists_classify_true (slot : Vector Nat 82) :
    ∃ k < 40, classify (dataDuration slot k) (dataSum slot 40) = true := by
  obtain ⟨k, hk, hmax⟩ := Finset.exists_max_image (Finset.range 40) (dataDuration slot) (by simp)
  exact ⟨k, Finset.mem_range.1 hk,
    classify_of_max fun i hi => hmax i (Finset.mem_range.2 hi)⟩

theorem packedByte_eight_toNat (slot : Vector Nat 82) (thr j : Nat) :
    (packedByte slot thr j 8).toNat = bitSum slot thr j 8 := by
  rw [← packedOnto_zero, packedOnto_eight_toNat]

/-- A byte of value 0 has no bit of value 1. -/
theorem classify_of_packedByte_zero {slot : Vector Nat 82} {thr j m : Nat} (hm : m < 8)
    (h : packedByte slot thr j 8 = 0#8) :
    classify (dataDuration slot (8 * j + m)) thr = false := by
  have hsum : bitSum slot thr j 8 = 0 := by rw [← packedByte_eight_toNat, h]; rfl
  have hterm := Finset.sum_eq_zero_iff.1 hsum m (Finset.mem_range.2 hm)
  simpa [dataBit, classify_eq_false_iff] using hterm

/-- A byte of bits of value 1 only has the value 255. -/
theorem packedByte_of_ones {slot : Vector Nat 82} {thr j : Nat}
    (h : ∀ m < 8, classify (dataDuration slot (8 * j + m)) thr = true) :
    packedByte slot thr j 8 = 0xFF#8 := by
  have hbit : ∀ m ∈ Finset.range 8, dataBit slot thr (8 * j + m) * 2 ^ (8 - 1 - m) =
      2 ^ (8 - 1 - m) := fun m hm => by
    rw [← classify_toNat, h m (Finset.mem_range.1 hm)]; simp
  apply BitVec.eq_of_toNat_eq
  rw [packedByte_eight_toNat, bitSum, Finset.sum_congr rfl hbit]
  decide

/-- In CHECK the bytes are the data bits classified against the sum of the slots. -/
theorem State.DecodeRecord.frame (hrec : s.DecodeRecord) (hcap : s.CaptureRecord)
    (hst : s.st = St.check) (j : Nat) (hj : j < 5) :
    s.fb[j] = packedByte s.slot (dataSum s.slot 40) j 8 := by
  rw [hrec.packed hst j hj, hrec.threshold (.inr hst), hcap.sum_complete (.inr (.inr hst))]

theorem frame_ne_zero (hcap : s.CaptureRecord) (hrec : s.DecodeRecord) (hst : s.st = St.check) :
    s.fb ≠ Vector.replicate 5 0#8 := by
  intro hzero
  obtain ⟨k, hk, hone⟩ := exists_classify_true s.slot
  have hj : k / 8 < 5 := by omega
  have hbyte : packedByte s.slot (dataSum s.slot 40) (k / 8) 8 = 0#8 := by
    rw [← hrec.frame hcap hst (k / 8) hj]; simp [hzero]
  have hbit := classify_of_packedByte_zero (Nat.mod_lt k (by decide)) hbyte
  rw [Nat.div_add_mod, hone] at hbit
  cases hbit

theorem frame_of_equal_durations {d : Nat} (hcap : s.CaptureRecord) (hrec : s.DecodeRecord)
    (hst : s.st = St.check) (hdur : ∀ k < 40, dataDuration s.slot k = d) :
    s.fb = Vector.replicate 5 0xFF#8 := by
  have hone : ∀ k < 40, classify (dataDuration s.slot k) (dataSum s.slot 40) = true :=
    fun k hk => hdur k hk ▸ classify_of_max fun i hi => (hdur i hi).le
  refine Vector.ext fun j hj => ?_
  rw [hrec.frame hcap hst j hj, packedByte_of_ones fun m hm => hone _ (by omega),
    Vector.getElem_replicate]

theorem exec_check_of_mismatch (h : s.csum ≠ s.fb[4]) :
    exec .check s =
      .next { s with outTag := .checksumMismatch, done := true, st := St.idle } := by
  rw [← complete_of_ne_reading (by decide)]
  simp [exec, execCheck, h]

/-- Settles O28: the longest duration is classified as 1, which keeps its byte from 0; equal durations are all
the longest, and five bytes FF have the checksum FC. -/
theorem allZeroFrameNeverDecoded : Obligations.AllZeroFrameNeverDecoded := by
  refine ⟨exists_classify_true, fun s => frame_ne_zero, fun s d hcap hrec hst hdur => ?_⟩
  have hfb := frame_of_equal_durations hcap hrec hst hdur
  have hcsum : s.csum = 0xFC#8 := by rw [hrec.summed hst, hfb]; decide
  exact ⟨hfb, hcsum, exec_check_of_mismatch (by simp [hfb, hcsum])⟩

end Sys2Proof.Machine
end

section
/-!
The outcome encoder of 43_check_outcome.md: what CHECK and each COMPLETE write (R116, R117), the checksum law
(R122) and the physical values of a READING (R119, R120).
-/

namespace Sys2Proof.Machine

variable {s t : State}

/-! ### CHECK and COMPLETE (R116, R117) -/

theorem exec_check_of_match (h : s.csum = s.fb[4]) :
    exec .check s = .next (complete .reading s) := by
  simp [exec, execCheck, h]

/-- Settles O29: the two outcomes of the comparison in CHECK. -/
theorem checkEndsTheRead : Obligations.CheckEndsTheRead :=
  ⟨fun _ h => exec_check_of_match h, fun _ h => exec_check_of_mismatch h⟩

/-- Settles O30: READING writes the fields of the frame, and the other two tags leave the data outputs. -/
theorem outcomeEncoderWrites : Obligations.OutcomeEncoderWrites := fun s =>
  ⟨rfl, congrArg Host.Outcome.next (complete_of_ne_reading (by decide) s),
    congrArg Host.Outcome.next (complete_of_ne_reading (by decide) s), rfl⟩

/-! ### The checksum law (R122) -/

theorem step_check_of_match (hc : s.cfg.Usable) (hr : s.inputs.rst = false) (hst : s.st = St.check)
    (h : s.csum = s.fb[4]) : ∃ t, step s = .next t ∧ t.outTag = .reading :=
  ⟨_, step_of_exec hc hr hst (exec_check_of_match h), rfl⟩

theorem step_check_of_mismatch (hc : s.cfg.Usable) (hr : s.inputs.rst = false)
    (hst : s.st = St.check) (h : s.csum ≠ s.fb[4]) :
    ∃ t, step s = .next t ∧ t.outTag = .checksumMismatch :=
  ⟨_, step_of_exec hc hr hst (exec_check_of_mismatch h), rfl⟩

/-- A byte with one bit changed is another byte. -/
theorem ne_xor_bit (b : Byte) {n : Nat} (hn : n < 8) : b ≠ b ^^^ (1#8 <<< n) := by
  have hbit : ∀ n < 8, 1#8 <<< n ≠ 0#8 := by decide
  intro h
  exact hbit n hn ((BitVec.xor_right_inj b).1 (h.symm.trans BitVec.xor_zero.symm))

/-- Settles O33: CHECK compares `csum` with the whole checksum byte. -/
theorem checksumLaw : Obligations.ChecksumLaw := by
  intro s hc hr hst hsum
  refine ⟨fun hvalid => step_check_of_match hc hr hst (hsum.trans hvalid.symm), fun n hn hbit => ?_⟩
  refine step_check_of_mismatch hc hr hst ?_
  rw [hsum, hbit]
  exact ne_xor_bit _ hn

/-! ### The physical values (R119, R120, R63) -/

theorem tsignField_iff (fb : Vector Byte 5) : tsignField fb = true ↔ 128 ≤ fb[2].toNat := by
  rw [tsignField, ← BitVec.msb_eq_getLsbD_last, BitVec.msb_eq_decide]
  simp

/-- Any 16-bit humidity is a multiple of 0.1 up to 6553.5 (R119). -/
theorem State.humidity_range (s : State) : 0 ≤ s.humidity ∧ s.humidity ≤ 65535 / 10 := by
  have hmax : s.outHum.toNat ≤ 65535 := Nat.le_of_lt_succ s.outHum.isLt
  have hcast : (s.outHum.toNat : ℚ) ≤ 65535 := by exact_mod_cast hmax
  unfold State.humidity
  exact ⟨by positivity, by gcongr⟩

/-- The sign leaves the magnitude, which has 15 bits (R120). -/
theorem State.abs_temperature_le (s : State) : |s.temperature| ≤ 32767 / 10 := by
  have hmax : s.outTmag.toNat ≤ 32767 := Nat.le_of_lt_succ s.outTmag.isLt
  have hcast : (s.outTmag.toNat : ℚ) ≤ 32767 := by exact_mod_cast hmax
  have habs : |s.temperature| = (s.outTmag.toNat : ℚ) / 10 := by
    unfold State.temperature
    cases s.outTsign <;> simp [abs_div]
  rw [habs]
  gcongr

/-- Settles O32: the fields of a READING as numbers, and the widths of the two registers. -/
theorem physicalValues : Obligations.PhysicalValues := by
  intro s t hexec
  obtain rfl : complete .reading s = t := by cases hexec; rfl
  refine ⟨?_, ?_, State.humidity_range _, abs_le.1 (State.abs_temperature_le _), tsignField_iff s.fb⟩
  · simp [State.humidity, humField_toNat]
  · simp [State.temperature, tmagField_toNat, tsignField_iff]

end Sys2Proof.Machine
end

section
/-!
The end of every read (43_check_outcome.md R118, 70_reset_and_hazards.md R163): a run from START reaches IDLE
within the bound whatever the line does, and the first step that does so is the read's one COMPLETE.
-/

namespace Sys2Proof.Machine

variable {s t : State} {n : Nat}

/-! ### What a run does to the parameters and the ticks -/

theorem run_succ_eq_next : run (n + 1) s = .next t ↔ ∃ u, step s = .next u ∧ run n u = .next t := by
  cases hs : step s <;> simp [run, hs]

theorem run_cfg_eq (h : run n s = .next t) : t.cfg = s.cfg :=
  run_keeps (P := fun u => u.cfg = s.cfg)
    (fun _ _ hu hstep => (step_cases hstep).2.cfg_eq.trans hu) rfl h

theorem run_keeps_decodeRecord (hs : s.DecodeRecord) (h : run n s = .next t) : t.DecodeRecord :=
  run_keeps (fun _ _ hu hstep => (step_cases hstep).2.decodeRecord hu) hs h

theorem run_stim_eq (h : run n s = .next t) : t.stim = s.stim.drop n := by
  induction n generalizing s with
  | zero => cases h; rfl
  | succ n ih =>
    obtain ⟨u, hstep, hrun⟩ := run_succ_eq_next.1 h
    rw [ih hrun, (step_cases hstep).2.stim_eq, List.drop_tail]

theorem Stim.noReset_drop {ts : List Tick} (n : Nat) (h : Stim.noReset ts = true) :
    Stim.noReset (ts.drop n) = true :=
  List.all_eq_true.2 fun i hi => List.all_eq_true.1 h i (List.mem_of_mem_drop hi)

/-- Ticks enough without `rst` have a first part of any length, and neither part has a tick with `rst`. -/
theorem Stim.noReset_split {ts : List Tick} (h : Stim.noReset ts = true) (hn : n ≤ ts.length) :
    ∃ us vs, ts = us ++ vs ∧ us.length = n ∧ Stim.noReset us = true ∧ Stim.noReset vs = true := by
  rw [← List.take_append_drop n ts, Stim.noReset_append, Bool.and_eq_true] at h
  exact ⟨_, _, (List.take_append_drop n ts).symm, List.length_take_of_le hn, h.1, h.2⟩

/-- A step that samples a fixed tick of such a list samples no `rst`. -/
theorem inputs_not_rst (hr : Stim.noReset s.stim = true) (hlen : 0 < s.stim.length) :
    s.inputs.rst = false := by
  obtain ⟨i, rest, hstim⟩ := List.exists_cons_of_length_pos hlen
  rw [hstim] at hr
  rw [inputs_of_cons hstim]
  obtain ⟨hi, -⟩ : i.rst = false ∧ Stim.noReset rest = true := by simpa [Stim.noReset] using hr
  exact hi

/-! ### The first step of a read that leads to IDLE -/

/-- The read is in progress and shows no outcome (20_memory.md R53). -/
def State.InProgress (s : State) : Prop := s.busy = true ∧ s.done = false ∧ s.outTag = .none

/-- The step before was a COMPLETE (R117). -/
def State.Completed (s : State) : Prop := s.st = St.idle ∧ s.done = true ∧ s.outTag ≠ .none

theorem State.Inv.inProgress (hs : s.Inv) (hbusy : s.st ≠ St.idle) : s.InProgress :=
  ⟨by simpa [State.busy] using hbusy, (hs.busy_none hbusy).2, (hs.busy_none hbusy).1⟩

/-- A busy engine comes to IDLE without `rst` by COMPLETE only. -/
theorem StepCase.completed (h : StepCase s t) (hr : s.inputs.rst = false) (hbusy : s.st ≠ St.idle)
    (hidle : t.st = St.idle) : t.Completed :=
  have hdone := h.done_iff.2 ⟨hr, hbusy, hidle⟩
  ⟨hidle, hdone, h.done_outcome hdone⟩

/-- A run that brings a busy engine to IDLE first comes there by a COMPLETE, with the read in progress up to
it. -/
theorem State.Inv.run_completes (hs : s.Inv) (hbusy : s.st ≠ St.idle)
    (hr : Stim.noReset s.stim = true) (hlen : n ≤ s.stim.length) (hrun : run n s = .next t)
    (hidle : t.st = St.idle) :
    ∃ m ≤ n, ∃ u, run m s = .next u ∧ u.Completed ∧
      ∀ k < m, ∃ v, run k s = .next v ∧ v.InProgress := by
  induction n generalizing s with
  | zero => cases hrun; exact absurd hidle hbusy
  | succ n ih =>
    obtain ⟨v, hstep, hrest⟩ := run_succ_eq_next.1 hrun
    have hcase := (step_cases hstep).2
    by_cases hv : v.st = St.idle
    · refine ⟨1, Nat.succ_pos n, v, run_succ_of_next 0 hstep,
        hcase.completed (inputs_not_rst hr (by omega)) hbusy hv, fun k hk => ?_⟩
      obtain rfl := Nat.lt_one_iff.1 hk
      exact ⟨s, rfl, hs.inProgress hbusy⟩
    · have hstim : v.stim = s.stim.drop 1 := hcase.stim_eq.trans List.drop_one.symm
      obtain ⟨m, hm, u, hu, hcompleted, hbefore⟩ := ih (hcase.inv hs) hv
        (hstim ▸ Stim.noReset_drop 1 hr) (by rw [hstim, List.length_drop]; omega) hrest
      refine ⟨m + 1, Nat.succ_le_succ hm, u, run_succ_eq_next.2 ⟨v, hstep, hu⟩, hcompleted, ?_⟩
      rintro (_ | k) hk
      · exact ⟨s, rfl, hs.inProgress hbusy⟩
      · obtain ⟨w, hw, hprogress⟩ := hbefore k (Nat.lt_of_succ_lt_succ hk)
        exact ⟨w, run_succ_eq_next.2 ⟨v, hstep, hw⟩, hprogress⟩

/-! ### Every read reaches IDLE (R163 (c)) -/

/-- THRESH, the 40 ticks of PACK and CHECK. -/
theorem run_thresh_to_idle (hc : s.cfg.Usable) (hst : s.st = St.thresh) (hcsum : s.csum = 0#8)
    (hr : Stim.noReset s.stim = true) (hlen : 42 ≤ s.stim.length) :
    ∃ t, run 42 s = .next t ∧ t.st = St.idle := by
  obtain ⟨ts, rest, hstim, hticks, hts, -⟩ := Stim.noReset_split (n := 41) hr (by omega)
  obtain ⟨t, hrun, ht⟩ := runsOver_decode hc hst hcsum hticks hts hstim
  have hleft := hrun.length_stim
  have hcheck := step_of_exec (run_cfg_eq hrun.2 ▸ hc)
    (inputs_not_rst (hrun.noReset hr) (by omega)) ht.st rfl
  exact ⟨_, (run_add 1 (hticks ▸ hrun.2)).trans (run_succ_of_next 0 hcheck), rfl⟩

/-- The capture, then the decoding where it was completed. -/
theorem run_release_to_idle (hs : s.Inv) (hrec : s.DecodeRecord) (hst : s.st = St.releaseWait)
    (hcnt : s.cnt = 0) (hr : Stim.noReset s.stim = true)
    (hlen : 83 * s.cfg.ceiling + 43 ≤ s.stim.length) :
    ∃ n ≤ 83 * s.cfg.ceiling + 43, ∃ t, run n s = .next t ∧ t.st = St.idle := by
  obtain ⟨n, u, hn, hrun, hend⟩ :=
    everySequenceIsCapturedOrTimesOut s hs.usable hst hcnt hr (by omega)
  rcases hend with ⟨hthresh, -⟩ | ⟨hidle, -⟩
  · have hcsum : u.csum = 0#8 :=
      ((run_keeps_decodeRecord hrec hrun).before (by simp [hthresh])).2
    have hstim := run_stim_eq hrun
    obtain ⟨t, ht, hidle⟩ := run_thresh_to_idle (run_cfg_eq hrun ▸ hs.usable) hthresh hcsum
      (hstim ▸ Stim.noReset_drop n hr) (by rw [hstim, List.length_drop]; omega)
    exact ⟨n + 42, by omega, t, (run_add 42 hrun).trans ht, hidle⟩
  · exact ⟨n, by omega, u, hrun, hidle⟩

/-- An accepted START leaves what a step from the reset table would (R82). -/
theorem stepCase_start_of_reset (hr : s.inputs.rst = false) (hs : s.inputs.start = true) :
    StepCase (State.resetWith s.cfg s.stim s.tick) (acceptStart s).advance :=
  .start hr rfl hs

/-- A read from the tick after its START to IDLE. -/
theorem run_start_to_idle {i : Tick} {rest : List Tick} (hc : s.cfg.Usable)
    (hst : s.st = St.idle) (hstim : s.stim = i :: rest) (hs : i.start = true) (hi : i.rst = false)
    (hr : Stim.noReset rest = true)
    (hlen : s.cfg.wakeTicks + s.cfg.startTicks + 83 * s.cfg.ceiling + 43 ≤ rest.length) :
    ∃ n ≤ s.cfg.wakeTicks + s.cfg.startTicks + 83 * s.cfg.ceiling + 43, ∃ t,
      run n (acceptStart s).advance = .next t ∧ t.st = St.idle := by
  obtain ⟨ws, rest, rfl, hwake, hws, hr⟩ :=
    Stim.noReset_split (n := s.cfg.wakeTicks) hr (by omega)
  rw [List.length_append] at hlen
  obtain ⟨ls, rest, rfl, hlow, hls, hr⟩ :=
    Stim.noReset_split (n := s.cfg.startTicks) hr (by omega)
  rw [List.length_append] at hlen
  obtain ⟨-, -, u, hu, hust, hucnt, hustim⟩ :=
    run_read_to_release hc hst hstim hs hi hws hls hwake hlow
  have hin := inputs_of_cons hstim
  have hstart := stepCase_start_of_reset (hin ▸ hi) (hin ▸ hs)
  have htick : run 1 s = .next (acceptStart s).advance :=
    run_succ_of_next 0 (step_idle_of_start hc hst (hin ▸ hi) (hin ▸ hs))
  have hrun : run (s.cfg.wakeTicks + s.cfg.startTicks) (acceptStart s).advance = .next u := by
    rw [← run_add _ htick, ← Nat.add_assoc]
    exact hu
  have hinv : u.Inv :=
    run_keeps invariantKeptByEveryStep (hstart.inv (inv_resetWith hc _ _)) hrun
  have hrec : u.DecodeRecord := run_keeps_decodeRecord
    (hstart.decodeRecord (decodeRecord_resetWith _ _ _)) hrun
  have hcfg : u.cfg = s.cfg := run_cfg_eq hu
  obtain ⟨n, hn, t, ht, hidle⟩ := run_release_to_idle hinv hrec hust hucnt (hustim ▸ hr)
    (by rw [hcfg, hustim]; omega)
  rw [hcfg] at hn
  exact ⟨_, by omega, t, (run_add n hrun).trans ht, hidle⟩

/-- Settles O47: the run from the accepted START reaches IDLE within the bound, and its first step that does
so completes the read. -/
theorem everyReadEndsInOneOutcome : Obligations.EveryReadEndsInOneOutcome := by
  intro s i rest hc hst hstim hs hi hr hlen
  have hin := inputs_of_cons hstim
  have hstart := step_idle_of_start hc hst (hin ▸ hi) (hin ▸ hs)
  have hrest : (acceptStart s).advance.stim = rest := by simp [hstim]
  obtain ⟨n, hn, t, hrun, hidle⟩ := run_start_to_idle hc hst hstim hs hi hr hlen
  have hinv := (stepCase_start_of_reset (hin ▸ hi) (hin ▸ hs)).inv (inv_resetWith hc _ _)
  obtain ⟨m, hm, u, hu, ⟨hust, hudone, hutag⟩, hbefore⟩ := hinv.run_completes (by simp)
    (hrest ▸ hr) (hrest ▸ hn.trans hlen) hrun hidle
  refine ⟨m + 1, u, Nat.succ_pos m, by omega, (run_succ_of_next m hstart).trans hu, hust, hudone,
    hutag, ?_⟩
  rintro (_ | k) hpos hk
  · exact absurd hpos (Nat.lt_irrefl 0)
  · obtain ⟨v, hv, hbusy⟩ := hbefore k (Nat.lt_of_succ_lt_succ hk)
    exact ⟨v, (run_succ_of_next k hstart).trans hv, hbusy⟩

end Sys2Proof.Machine
end

section
/-!
Why a step gives no next state: the configurations it refuses (60_exceptions.md R146, 00_scope.md R6), and the
faults of a usable one (10_state.md R37, 20_memory.md R42). A state that meets the invariant has neither.
-/

namespace Sys2Proof.Machine

variable {s : State}

/-! ### Refusals (R146, R6) -/

theorem step_of_configRefusal {r : Refusal} (h : configRefusal s.cfg = some r) :
    step s = .refused r := by
  simp only [step, h]

theorem step_of_not_soleDriver (h : ¬ s.cfg.SoleDriver) : step s = .refused .sharedLine :=
  step_of_configRefusal (if_pos h)

theorem step_of_not_legal (hsole : s.cfg.SoleDriver) (h : ¬ s.cfg.Legal) :
    step s = .refused .illegalParameter :=
  step_of_configRefusal ((if_neg (not_not_intro hsole)).trans (if_pos h))

/-- Only a usable configuration runs an instruction. -/
theorem usable_of_step_fault {r : Fault} (h : step s = .fault r) : s.cfg.Usable := by
  by_cases hsole : s.cfg.SoleDriver
  · by_cases hlegal : s.cfg.Legal
    · exact ⟨hlegal, hsole⟩
    · simp [step_of_not_legal hsole hlegal] at h
  · simp [step_of_not_soleDriver hsole] at h

/-! ### Faults (R37, R42) -/

/-- Every way a step of a usable configuration can fault. -/
inductive FaultCase (s : State) : Fault → Prop where
  /-- a reserved code (R37) -/
  | reserved (hst : 9 ≤ s.st.toNat) : FaultCase s (.reservedState s.st)
  /-- the end of a Low phase with no slot for it (R42, R94) -/
  | lowPhase (hst : s.st = St.capLow) (hp : 40 < s.pidx.toNat) :
      FaultCase s (.storageIndex (lowSlot s.pidx))
  /-- the end of a High phase with no slot for it (R42, R95) -/
  | highPhase (hst : s.st = St.capHigh) (hp : 40 < s.pidx.toNat) :
      FaultCase s (.storageIndex (highSlot s.pidx))
  /-- a data bit with no slot (R42, R107) -/
  | pack (hst : s.st = St.pack) (hk : 39 < s.kidx.toNat) :
      FaultCase s (.storageIndex (dataSlot s.kidx))

/-- The operation goes on to a next state, or faults in one of the named cases. -/
def GoesOnOrFaults (s : State) (o : Host.Outcome State Fault Refusal) : Prop :=
  (∃ u, o = .next u) ∨ ∃ r, FaultCase s r ∧ o = .fault r

theorem exec_capLow_goesOnOrFaults (hst : s.st = St.capLow) :
    GoesOnOrFaults s (exec .capLow s) := by
  cases hl : s.inputs.line with
  | low => exact .inl ⟨_, exec_capLow_of_low hl⟩
  | high =>
    rcases Nat.lt_or_ge 40 s.pidx.toNat with hp | hp
    · exact .inr ⟨_, .lowPhase hst hp,
        (exec_capLow_of_high hl).trans (slotWrite_of_ge (by unfold lowSlot; omega))⟩
    · exact .inl ⟨_, exec_capLow_ends hl hp⟩

theorem exec_capHigh_goesOnOrFaults (hst : s.st = St.capHigh) :
    GoesOnOrFaults s (exec .capHigh s) := by
  cases hl : s.inputs.line with
  | high => exact .inl ⟨_, exec_capHigh_of_high hl⟩
  | low =>
    rcases Nat.lt_or_ge 40 s.pidx.toNat with hp | hp
    · exact .inr ⟨_, .highPhase hst hp,
        (exec_capHigh_of_low hl).trans (slotWrite_of_ge (by unfold highSlot; omega))⟩
    · exact .inl ⟨_, exec_capHigh_ends hl hp⟩

theorem exec_releaseWait_goesOn (s : State) : ∃ u, exec .releaseWait s = .next u := by
  cases hl : s.inputs.line with
  | high => exact ⟨_, exec_releaseWait_of_high hl⟩
  | low => exact ⟨_, exec_releaseWait_of_low hl⟩

theorem exec_pack_goesOnOrFaults (hst : s.st = St.pack) : GoesOnOrFaults s (exec .pack s) := by
  rcases Nat.lt_or_ge 39 s.kidx.toNat with hk | hk
  · exact .inr ⟨_, .pack hst hk, exec_pack_of_gt hk⟩
  · obtain ⟨d, b, -, -, hexec⟩ := exec_pack_of_le hk
    exact .inl ⟨_, hexec⟩

/-- The operation of each state code. -/
theorem exec_op_goesOnOrFaults (s : State) : GoesOnOrFaults s (exec s.op s) := by
  cases hr : s.inputs.rst with
  | true => rw [op_of_rst hr]; exact .inl ⟨_, rfl⟩
  | false =>
    rw [op_of_not_rst hr]
    rcases stCode_cases s.st with hst | hst | hst | hst | hst | hst | hst | hst | hst | hst
    · rw [hst]; exact .inl ⟨_, rfl⟩
    · rw [hst]; exact .inl ⟨_, rfl⟩
    · rw [hst]; exact .inl ⟨_, rfl⟩
    · rw [hst]; exact .inl (exec_releaseWait_goesOn s)
    · rw [hst]; exact exec_capLow_goesOnOrFaults hst
    · rw [hst]; exact exec_capHigh_goesOnOrFaults hst
    · rw [hst]; exact .inl ⟨_, rfl⟩
    · rw [hst]; exact exec_pack_goesOnOrFaults hst
    · rw [hst]; exact .inl ⟨_, rfl⟩
    · exact .inr ⟨_, .reserved hst, exec_reserved hst s⟩

/-- A step of a usable configuration gives a next state or faults in one of the named cases. -/
theorem step_goesOnOrFaults (hc : s.cfg.Usable) : GoesOnOrFaults s (step s) := by
  rw [step_eq hc]
  rcases exec_op_goesOnOrFaults s with ⟨u, hu⟩ | ⟨r, hr, hu⟩
  · exact .inl ⟨u.advance, by rw [hu]; rfl⟩
  · exact .inr ⟨r, hr, by rw [hu]; rfl⟩

/-- Settles O4: the configuration is tested before anything else, and no operation refuses. -/
theorem configurationsRefused : Obligations.ConfigurationsRefused := by
  refine ⟨fun s => step_of_not_soleDriver, fun s hsole hzero => ?_, fun s r hc hrefused => ?_⟩
  · exact step_of_not_legal hsole (by unfold Params.Legal; omega)
  · rcases step_goesOnOrFaults hc with ⟨t, ht⟩ | ⟨f, -, ht⟩ <;> simp [ht] at hrefused

/-- The invariant excludes the reserved codes and the indexes without storage (R135, R155). -/
theorem State.Inv.not_faultCase {r : Fault} (hs : s.Inv) : ¬ FaultCase s r := by
  rintro (hst | ⟨-, hp⟩ | ⟨-, hp⟩ | ⟨-, hk⟩)
  · exact absurd hs.st_le (by omega)
  · exact absurd hs.pidx_le (by omega)
  · exact absurd hs.pidx_le (by omega)
  · exact absurd hs.kidx_le (by omega)

/-- A fault names the reserved code in `st`, or an index of at least 82. -/
theorem FaultCase.fault_cases {r : Fault} (h : FaultCase s r) :
    (9 ≤ s.st.toNat ∧ r = .reservedState s.st) ∨ ∃ n, 82 ≤ n ∧ r = .storageIndex n := by
  cases h with
  | reserved hst => exact .inl ⟨hst, rfl⟩
  | lowPhase _ hp => exact .inr ⟨_, by unfold lowSlot; omega, rfl⟩
  | highPhase _ hp => exact .inr ⟨_, by unfold highSlot; omega, rfl⟩
  | pack _ hk => exact .inr ⟨_, by unfold dataSlot; omega, rfl⟩

/-- Settles O39: a fault is one of the named cases, and the invariant excludes each of them. -/
theorem goodStatesNeverStop : Obligations.GoodStatesNeverStop := by
  refine ⟨fun s r hfault => ?_, fun s hs => ?_⟩
  · rcases step_goesOnOrFaults (usable_of_step_fault hfault) with ⟨t, ht⟩ | ⟨f, hf, ht⟩
    · simp [ht] at hfault
    · obtain rfl : f = r := Host.Outcome.fault.inj (ht.symm.trans hfault)
      exact hf.fault_cases
  · exact (step_goesOnOrFaults hs.usable).resolve_right fun ⟨_, hf, _⟩ => hs.not_faultCase hf

end Sys2Proof.Machine
end

section
/-!
The outcome after a read (60_exceptions.md R140): an idle engine without START only clears the strobe
(40_handshake.md R81), so it keeps its outcome for as long as it waits.
-/

namespace Sys2Proof.Machine

variable {s : State} {ts rest : List Tick}

theorem step_idle_of_no_start (hc : s.cfg.Usable) (hst : s.st = St.idle)
    (hr : s.inputs.rst = false) (hs : s.inputs.start = false) :
    step s = .next (idleNoCommand s).advance :=
  step_of_exec hc hr hst (exec_idle_of_no_start hs)

/-- Of all registers, an idle engine without a command writes the strobe only, in the first tick. -/
theorem run_idle (hc : s.cfg.Usable) (hst : s.st = St.idle) (hstim : s.stim = ts ++ rest)
    (hts : ∀ i ∈ ts, i.rst = false ∧ i.start = false) :
    run ts.length s =
      .next { s with done := s.done && ts.isEmpty, stim := rest, tick := s.tick + ts.length } := by
  induction ts generalizing s with
  | nil =>
    obtain rfl : s.stim = rest := hstim
    simp
  | cons i ts ih =>
    obtain ⟨⟨hr, hs⟩, hts⟩ := List.forall_mem_cons.1 hts
    have hin : s.inputs = i := inputs_of_cons hstim
    have hstep := step_idle_of_no_start hc hst (hin ▸ hr) (hin ▸ hs)
    rw [List.length_cons, run_succ_of_next _ hstep,
      ih (s := (idleNoCommand s).advance) hc hst (by simp [hstim]) hts]
    simp [idleNoCommand, State.advance, Nat.add_assoc, Nat.add_comm 1]

/-- Settles O36: at least one tick passes, so the strobe is cleared. -/
theorem outcomeStaysUntilTheNextStart : Obligations.OutcomeStaysUntilTheNextStart := by
  intro s ts rest hc hst hstim hne hts
  rw [run_idle hc hst hstim hts, List.isEmpty_eq_false_iff.2 hne, Bool.and_false]

end Sys2Proof.Machine
end

section
/-!
The TIMEOUT outcome: a step times out exactly when the line stays at the level waited out with `cnt = C`
(60_exceptions.md R138), and the output ports then show the one code 2 for each of the 83 causes (R132).
-/

namespace Sys2Proof.Machine

variable {s t : State}

/-! ### When a step times out (R97, R138) -/

/-- This step samples, for the `(C+1)`-th time, the level waited out. -/
def State.TimesOut (s : State) : Prop :=
  s.waiting = true ∧ s.inputs.line = s.phaseLevel ∧ s.cnt = s.cfg.ceiling

theorem step_of_timesOut (hc : s.cfg.Usable) (hr : s.inputs.rst = false) (h : s.TimesOut) :
    step s = .next (complete .timeout s).advance := by
  obtain ⟨hw, hl, hcnt⟩ := h
  rw [step_of_phaseLevel hc hw hr hl]
  exact congrArg (Host.Outcome.next ∘ State.advance) (if_pos hcnt)

/-- A completed read has timed out or has been checked. -/
theorem StepCase.done_cases (h : StepCase s t) (ht : t.done = true) :
    (s.TimesOut ∧ t.outTag = .timeout) ∨ (s.st = St.check ∧ t.outTag ≠ .timeout) := by
  cases h with
  | timeout _ hw hl hcnt => exact .inl ⟨⟨hw, hl, hcnt⟩, rfl⟩
  | reading _ hst | mismatch _ hst => exact .inr ⟨hst, by simp⟩
  | _ => cases ht

theorem storeSlot_getElem?_self {n v : Nat} (h : n < 82) : (storeSlot n v s).slot[n]? = some v :=
  Vector.getElem?_setIfInBounds_self_of_lt h

/-- Settles O19: the tick of each waiting state at its other level, and of the completing steps the one that
begins in a waiting state. -/
theorem levelChangeBeatsTheCeiling : Obligations.LevelChangeBeatsTheCeiling := by
  refine ⟨fun s hc hr hcnt hp => ⟨fun hst hl => ?_, fun hst hl => ?_, fun hst hl => ?_⟩,
    fun s t hw hr hstep hdone => ?_⟩
  · exact ⟨_, step_of_exec hc hr hst (exec_releaseWait_of_low hl), rfl, rfl, rfl⟩
  · refine ⟨_, step_of_exec hc hr hst (exec_capLow_ends hl hp), rfl, rfl, rfl, ?_⟩
    exact hcnt ▸ storeSlot_getElem?_self (lowSlot_lt hp)
  · refine ⟨_, step_of_exec hc hr hst (exec_capHigh_ends hl hp), ?_, rfl, rfl, ?_⟩
    · by_cases hlast : s.pidx = 40#6 <;> simp [hlast]
    · exact hcnt ▸ storeSlot_getElem?_self (highSlot_lt hp)
  · rcases (step_cases hstep).2.done_cases hdone with ⟨⟨-, hl, hcnt⟩, htag⟩ | ⟨hst, -⟩
    · exact ⟨htag, hcnt, hl⟩
    · simp [State.waiting, hst] at hw

/-! ### The causes (R132) -/

/-- A step times out exactly when it has a cause. -/
theorem timeoutCause_isSome_iff (hp : s.pidx.toNat ≤ 40) :
    s.timeoutCause.isSome = true ↔ s.TimesOut := by
  constructor
  · intro h
    unfold State.timeoutCause at h
    split_ifs at h with hlimit hrelease _ hlow hhigh
    · exact ⟨waiting_iff.2 (.inl hrelease), hlimit.2, hlimit.1⟩
    · exact ⟨waiting_iff.2 (.inr (.inl hlow)), hlimit.2, hlimit.1⟩
    · exact ⟨waiting_iff.2 (.inr (.inr hhigh)), hlimit.2, hlimit.1⟩
    all_goals cases h
  · rintro ⟨hw, hl, hcnt⟩
    have hpair : s.pidx.toNat < 41 := Nat.lt_succ_of_le hp
    rcases waiting_iff.1 hw with hst | hst | hst <;>
      simp [State.timeoutCause, hl, hcnt, hst, hpair]

theorem timeoutCause_mem_all (c : TimeoutCause) : c ∈ TimeoutCause.all := by
  cases c <;> simp [TimeoutCause.all]

theorem timeoutCause_all_nodup : TimeoutCause.all.Nodup := by
  have hlow : ((List.finRange 41).map TimeoutCause.low).Nodup :=
    (List.nodup_finRange 41).map fun _ _ => TimeoutCause.low.inj
  have hhigh : ((List.finRange 41).map TimeoutCause.high).Nodup :=
    (List.nodup_finRange 41).map fun _ _ => TimeoutCause.high.inj
  have hkinds : ((List.finRange 41).map TimeoutCause.low).Disjoint
      ((List.finRange 41).map TimeoutCause.high) := by simp [List.Disjoint]
  exact List.nodup_cons.2 ⟨by simp, hlow.append hhigh hkinds⟩

/-- The reset table but for a waiting state `c` of pair `pair` with `cnt = C`, which samples `l`. -/
def waitedOut (c : StCode) (pair : Fin 41) (l : Level) : State :=
  { State.resetWith Config.params [Stim.sample l] 0 with
    st := c, cnt := Config.params.ceiling, pidx := BitVec.ofNat 6 pair }

@[simp] theorem waitedOut_st (c : StCode) (pair : Fin 41) (l : Level) :
    (waitedOut c pair l).st = c := rfl
@[simp] theorem waitedOut_cnt (c : StCode) (pair : Fin 41) (l : Level) :
    (waitedOut c pair l).cnt = (waitedOut c pair l).cfg.ceiling := rfl
@[simp] theorem waitedOut_line (c : StCode) (pair : Fin 41) (l : Level) :
    (waitedOut c pair l).inputs.line = l := rfl

@[simp] theorem waitedOut_pidx_toNat (c : StCode) (pair : Fin 41) (l : Level) :
    (waitedOut c pair l).pidx.toNat = pair :=
  Nat.mod_eq_of_lt (by omega)

theorem inv_waitedOut {c : StCode} (pair : Fin 41) (l : Level)
    (hw : (waitedOut c pair l).waiting = true) : (waitedOut c pair l).Inv := by
  have hreset := inv_resetWith config_params_usable [Stim.sample l] 0
  have hst : c = St.releaseWait ∨ c = St.capLow ∨ c = St.capHigh := waiting_iff.1 hw
  obtain ⟨⟨hceiling, hwake, hstart, -⟩, -⟩ := config_params_usable
  exact {
    st_le := show c.toNat ≤ 8 by rcases hst with rfl | rfl | rfl <;> decide
    cnt_le := le_rfl
    hold_wake := fun _ => hwake
    hold_start := fun _ => hstart
    cnt_pos := fun _ => hceiling
    pidx_le := by rw [waitedOut_pidx_toNat]; omega
    kidx_le := hreset.kidx_le
    hsum_le := hreset.hsum_le
    thr_le := hreset.thr_le
    slot_le := hreset.slot_le
    idle_released := padOe_of_not_busy
    no_reading_no_data := hreset.no_reading_no_data
    usable := config_params_usable
    hold_lt := hreset.hold_lt
    hsum_early := fun _ => rfl
    hsum_capture := fun _ => Nat.zero_le _
    busy_none := fun _ => ⟨rfl, rfl⟩
    done_outcome := hreset.done_outcome }

/-- A state in which the next step times out for the cause. -/
def TimeoutCause.witness : TimeoutCause → State
  | .release => waitedOut St.releaseWait 0 .high
  | .low pair => waitedOut St.capLow pair .low
  | .high pair => waitedOut St.capHigh pair .high

theorem TimeoutCause.witness_timeoutCause (c : TimeoutCause) : c.witness.timeoutCause = some c := by
  cases c with
  | release => rfl
  | low pair | high pair =>
    simp [State.timeoutCause, TimeoutCause.witness, State.phaseLevel]

theorem TimeoutCause.inv_witness (c : TimeoutCause) : c.witness.Inv := by
  cases c <;> exact inv_waitedOut _ _ rfl

theorem TimeoutCause.witness_not_rst (c : TimeoutCause) : c.witness.inputs.rst = false := by
  cases c <;> rfl

/-! ### The ports after a TIMEOUT (R132) -/

/-- What the ports show after a TIMEOUT. -/
def timeoutPorts : Ports where
  padOe := false
  padOut := false
  busy := false
  done := true
  outTag := 0b10#2
  outHum := 0#16
  outTsign := false
  outTmag := 0#15
  outFrame := 0#40

theorem complete_timeout_ports (hs : s.Inv) (hbusy : s.st ≠ St.idle) :
    (complete .timeout s).advance.ports = timeoutPorts := by
  obtain ⟨hhum, htsign, htmag, hframe⟩ := complete_dataZero (tag := .timeout) hs hbusy (by decide)
  simp only [State.ports, State.advance_outHum, State.advance_outTsign, State.advance_outTmag,
    State.advance_outFrame, hhum, htsign, htmag, hframe]
  rfl

theorem State.Inv.ports_of_timesOut (hs : s.Inv) (hr : s.inputs.rst = false) (h : s.TimesOut)
    (hstep : step s = .next t) : t.ports = timeoutPorts := by
  obtain rfl := Host.Outcome.next.inj (hstep.symm.trans (step_of_timesOut hs.usable hr h))
  exact complete_timeout_ports hs (ne_idle_of_waiting h.1)

/-- A step reports TIMEOUT exactly when it has a cause. -/
theorem State.Inv.timeout_iff (hs : s.Inv) (hr : s.inputs.rst = false) (hstep : step s = .next t) :
    (t.done = true ∧ t.outTag = .timeout) ↔ s.timeoutCause.isSome = true := by
  rw [timeoutCause_isSome_iff hs.pidx_le]
  constructor
  · rintro ⟨hdone, htag⟩
    exact ((step_cases hstep).2.done_cases hdone).elim And.left fun h => absurd htag h.2
  · intro h
    obtain rfl := Host.Outcome.next.inj (hstep.symm.trans (step_of_timesOut hs.usable hr h))
    exact ⟨rfl, rfl⟩

/-- Settles O23: a timeout has one of the listed causes, and leaves the ports the same for all of them. -/
theorem timeoutCausesAreUnreported : Obligations.TimeoutCausesAreUnreported := by
  refine ⟨by simp [TimeoutCause.all], timeoutCause_all_nodup, timeoutCause_mem_all,
    fun c => ⟨c.witness, c.inv_witness, c.witness_not_rst, c.witness_timeoutCause⟩, fun s t hs hr hstep => ?_,
    fun s t s' t' hs hs' hr hr' hcause hcause' hstep hstep' => ?_⟩
  · have hports : (t.ports.done = true ∧ t.ports.outTag = 0b10#2) ↔
        (t.done = true ∧ t.outTag = .timeout) :=
      and_congr_right fun _ => ports_outTag_eq_iff t .timeout
    exact ⟨hs.timeout_iff hr hstep, hports.trans (hs.timeout_iff hr hstep)⟩
  · rw [timeoutCause_isSome_iff hs.pidx_le] at hcause
    rw [timeoutCause_isSome_iff hs'.pidx_le] at hcause'
    rw [hs.ports_of_timesOut hr hcause hstep, hs'.ports_of_timesOut hr' hcause' hstep']

end Sys2Proof.Machine
end

section
/-!
Reset and the parameters (70_reset_and_hazards.md): a step with `rst = 1` leaves the reset table in any state
(R151), and no step changes a parameter (R162).
-/

namespace Sys2Proof.Machine

variable {s t : State}

theorem StepCase.tick_eq (h : StepCase s t) : t.tick = s.tick + 1 := by
  cases h <;> rfl

/-- Settles O5: no case of a step writes the configuration, and each uses up one tick. -/
theorem parametersNeverChange : Obligations.ParametersNeverChange := by
  intro s t hstep
  obtain ⟨-, hcase⟩ := step_cases hstep
  exact ⟨hcase.cfg_eq, hcase.stim_eq, hcase.tick_eq⟩

theorem exec_rst (s : State) : exec .rst s = .next (resetRegs s) := rfl

/-- `rst` has priority over the rule of the state (60_exceptions.md R137). -/
theorem step_of_rst (hc : s.cfg.Usable) (hr : s.inputs.rst = true) :
    step s = .next (resetRegs s).advance :=
  step_eq_next.2 ⟨hc, resetRegs s, op_of_rst hr ▸ exec_rst s, rfl⟩

/-- Settles O6: reset leaves the table of R35, in which the engine is idle. -/
theorem resetOverridesEverything : Obligations.ResetOverridesEverything := fun s hc hr =>
  ⟨exec_rst s, step_of_rst hc hr, _, step_of_rst hc hr, rfl, rfl, rfl, rfl⟩

end Sys2Proof.Machine
end

section
/-!
The line sequence of a frame (30_encoding.md R72) as pulse pairs, and what the decoder makes of the slots that
hold them (20_memory.md R41, 42_decode.md R110).
-/

namespace Sys2Proof.Machine

variable {fb : Vector Byte 5} {slot : Vector Nat 82} {pairs : List (Nat × Nat)} {al ah l short long : Nat}

/-! ### The data bits of a frame -/

/-- Data bit `k` of a frame, most significant bit of each byte first (20_memory.md R45). -/
def frameBit (fb : Vector Byte 5) (k : Nat) : Bool := (fb[k / 8]?.getD 0#8).getMsbD (k % 8)

theorem frameBit_of_byte (fb : Vector Byte 5) {j m : Nat} (hj : j < 5) (hm : m < 8) :
    frameBit fb (8 * j + m) = fb[j].getMsbD m := by
  have hbyte : (8 * j + m) / 8 = j := by omega
  have hbit : (8 * j + m) % 8 = m := by omega
  simp [frameBit, hbyte, hbit, hj]

/-- A frame with a byte other than 0 has a bit of value 1. -/
theorem exists_frameBit {j : Nat} (hj : j < 5) (h : fb[j] ≠ 0#8) :
    ∃ k < 40, frameBit fb k = true := by
  by_contra! hnone
  refine h (BitVec.eq_of_getMsbD_eq fun m hm => ?_)
  rw [← frameBit_of_byte fb hj hm]
  simpa using hnone (8 * j + m) (by omega)

/-! ### A frame on the line (R72) -/

/-- The durations of a frame of uniform lengths: the acknowledge pair, then one pair for each data bit. -/
def framePairs (fb : Vector Byte 5) (al ah l short long : Nat) : List (Nat × Nat) :=
  (al, ah) :: (List.range 40).map fun k => (l, if frameBit fb k then long else short)

theorem framePairs_length : (framePairs fb al ah l short long).length = 41 := by
  simp [framePairs]

theorem framePairs_succ {k : Nat} (hk : k < 40) :
    (framePairs fb al ah l short long)[k + 1]'(by rw [framePairs_length]; omega) =
      (l, if frameBit fb k then long else short) := by
  simp [framePairs]

theorem pairsInRange_framePairs {c : Nat} (hal : 1 ≤ al ∧ al ≤ c) (hah : 1 ≤ ah ∧ ah ≤ c)
    (hl : 1 ≤ l ∧ l ≤ c) (hshort : 1 ≤ short ∧ short ≤ c) (hlong : 1 ≤ long ∧ long ≤ c) :
    PairsInRange c (framePairs fb al ah l short long) := by
  refine List.forall_mem_cons.2 ⟨⟨hal, hah⟩, List.forall_mem_map.2 fun k _ => ⟨hl, ?_⟩⟩
  cases frameBit fb k
  · exact hshort
  · exact hlong

theorem byteBits_eq (fb : Vector Byte 5) {j : Nat} (hj : j < 5) :
    Stim.byteBits fb[j] = (List.range 8).map fun m => frameBit fb (8 * j + m) :=
  List.map_congr_left fun _ hm => (frameBit_of_byte fb hj (List.mem_range.1 hm)).symm

/-- The bytes sent one after another send the data bits in their order. -/
theorem flatMap_byteBits (fb : Vector Byte 5) :
    [fb[0], fb[1], fb[2], fb[3], fb[4]].flatMap Stim.byteBits = (List.range 40).map (frameBit fb) := by
  simp only [List.flatMap_cons, List.flatMap_nil, byteBits_eq]
  rfl

/-- A frame is the line sequence of its pairs. -/
theorem Stim.frame_eq_capture (fb : Vector Byte 5) (r al ah l short long : Nat) :
    Stim.frame fb[0] fb[1] fb[2] fb[3] fb[4] r al ah l short long =
      Stim.capture r (framePairs fb al ah l short long) := by
  have hbytes : [fb[0], fb[1], fb[2], fb[3], fb[4]].flatMap (Stim.byte · l short long) =
      (List.range 40).flatMap fun k => Stim.bit l short long (frameBit fb k) := by
    rw [← List.flatMap_map, ← flatMap_byteBits, List.flatMap_assoc]
    rfl
  rw [Stim.frame, hbytes, Stim.capture, framePairs, List.flatMap_cons, List.flatMap_map,
    List.append_assoc (Stim.high r)]
  rfl

/-! ### The slots of a captured sequence (20_memory.md R41) -/

/-- Pair `i` stands in the slots `2i` and `2i + 1`. -/
def SlotsHold (pairs : List (Nat × Nat)) (slot : List Nat) : Prop :=
  ∀ i (h : i < pairs.length),
    slot[2 * i]? = some pairs[i].1 ∧ slot[2 * i + 1]? = some pairs[i].2

theorem SlotsHold.sum_eq {slots : List Nat} (h : SlotsHold pairs slots)
    (hlen : slots.length = 2 * pairs.length) :
    slots.sum = (pairs.map fun q => q.1 + q.2).sum := by
  induction pairs generalizing slots with
  | nil => simp [List.eq_nil_of_length_eq_zero hlen]
  | cons q pairs ih =>
    match slots with
    | low :: high :: slots =>
      have hlow : low = q.1 := Option.some.inj (h 0 (Nat.succ_pos _)).1
      have hhigh : high = q.2 := Option.some.inj (h 0 (Nat.succ_pos _)).2
      have hrest := ih (slots := slots) (fun i hi => h (i + 1) (Nat.succ_lt_succ hi))
        (by simp at hlen; omega)
      simp [hlow, hhigh, hrest, Nat.add_assoc]

theorem SlotsHold.dataDuration_eq (h : SlotsHold (framePairs fb al ah l short long) slot.toList)
    {k : Nat} (hk : k < 40) :
    dataDuration slot k = if frameBit fb k then long else short := by
  have hhigh := (h (k + 1) (by rw [framePairs_length]; omega)).2
  rw [framePairs_succ hk, Vector.getElem?_toList] at hhigh
  exact congrArg (Option.getD · 0) hhigh

/-! ### The decoded frame (R110) -/

/-- Bit `n` shifted in below the bits above it. -/
theorem shiftIn_ushiftRight (b : Byte) (n : Nat) : shiftIn (b >>> (n + 1)) (b.getLsbD n) = b >>> n := by
  have hlt : b.toNat / 2 ^ n < 256 := (Nat.div_le_self _ _).trans_lt b.isLt
  apply BitVec.eq_of_toNat_eq
  rw [shiftIn_toNat, BitVec.toNat_ushiftRight, BitVec.toNat_ushiftRight, BitVec.getLsbD,
    Nat.toNat_testBit, Nat.shiftRight_eq_div_pow, Nat.shiftRight_eq_div_pow, pow_succ,
    ← Nat.div_div_eq_div_mul]
  omega

/-- A byte is made up of its bits, each classified. -/
theorem packedByte_eq {thr j : Nat} {b : Byte}
    (h : ∀ m < 8, classify (dataDuration slot (8 * j + m)) thr = b.getMsbD m) :
    packedByte slot thr j 8 = b := by
  have hshifted : ∀ m ≤ 8, packedByte slot thr j m = b >>> (8 - m) := by
    intro m hm
    induction m with
    | zero => exact (BitVec.ushiftRight_eq_zero le_rfl).symm
    | succ m ih =>
      have hbit : b.getMsbD m = b.getLsbD (7 - m) := by simp [BitVec.getMsbD, Nat.lt_of_succ_le hm]
      have hbefore : 8 - m = 7 - m + 1 := by omega
      rw [packedByte, ih (by omega), h m hm, hbit, hbefore, shiftIn_ushiftRight, Nat.succ_sub_succ 7 m]
  simpa using hshifted 8 le_rfl

/-- R110 (a): a frame of uniform lengths that is not all zeros is decoded as it was sent. -/
theorem SlotsHold.packedByte_eq (h : SlotsHold (framePairs fb al ah l short long) slot.toList)
    (hlt : short < long) (hone : ∃ k < 40, frameBit fb k = true) (j : Nat) (hj : j < 5) :
    packedByte slot (dataSum slot 40) j 8 = fb[j] := by
  have hbits := (uniformFrameDecodes slot (frameBit fb) short long hlt fun k => h.dataDuration_eq).1 hone
  refine Machine.packedByte_eq fun m hm => ?_
  rw [hbits _ (by omega), frameBit_of_byte fb hj hm]

end Sys2Proof.Machine
end

section
/-!
A whole read of a well-timed frame (70_reset_and_hazards.md R163 (a)): START and the hold phases, the capture,
the decoding and the READING, each a run over its own ticks.
-/

namespace Sys2Proof.Machine

variable {s t : State} {n : Nat} {i : Tick} {ts drive rest : List Tick} {fb : Vector Byte 5}

/-! ### The invariant with both records -/

/-- A good state, with what the capture and the decode in progress have recorded. -/
structure State.Recorded (s : State) : Prop where
  inv : s.Inv
  capture : s.CaptureRecord
  decode : s.DecodeRecord

theorem recorded_resetWith {p : Params} (hp : p.Usable) (stim : List Tick) (tick : Nat) :
    (State.resetWith p stim tick).Recorded :=
  ⟨inv_resetWith hp stim tick, captureRecord_resetWith p stim tick,
    decodeRecord_resetWith p stim tick⟩

theorem StepCase.recorded (h : StepCase s t) (hs : s.Recorded) : t.Recorded :=
  ⟨h.inv hs.inv, h.captureRecord hs.inv hs.capture, h.decodeRecord hs.decode⟩

theorem State.Recorded.of_run (hs : s.Recorded) (h : run n s = .next t) : t.Recorded :=
  run_keeps (fun _ _ hu hstep => (step_cases hstep).2.recorded hu) hs h

/-! ### The parts of the read -/

/-- START and the hold phases: the release wait begins with nothing recorded. -/
theorem runsOver_release (hc : s.cfg.Usable) (hst : s.st = St.idle)
    (hstim : s.stim = i :: (drive ++ rest)) (hs : i.start = true) (hi : i.rst = false)
    (hdrive : Stim.noReset drive = true)
    (hlen : drive.length = s.cfg.wakeTicks + s.cfg.startTicks) :
    ∃ u, RunsOver (i :: drive) s u ∧ u.Recorded ∧ u.cfg = s.cfg ∧ u.st = St.releaseWait ∧
      u.cnt = 0 := by
  obtain ⟨ws, ls, rfl, hwake, hws, hls⟩ :=
    Stim.noReset_split (n := s.cfg.wakeTicks) hdrive (by omega)
  have hlow : ls.length = s.cfg.startTicks := by simpa [hwake] using hlen
  obtain ⟨-, -, u, hu, hust, hucnt, hustim⟩ := run_read_to_release (rest := rest) hc hst
    (by simpa using hstim) hs hi hws hls hwake hlow
  have hin := inputs_of_cons hstim
  have htick : run 1 s = .next (acceptStart s).advance :=
    run_succ_of_next 0 (step_idle_of_start hc hst (hin ▸ hi) (hin ▸ hs))
  have hstart : (acceptStart s).advance.Recorded :=
    (stepCase_start_of_reset (hin ▸ hi) (hin ▸ hs)).recorded (recorded_resetWith hc _ _)
  have hrun : RunsOver (i :: (ws ++ ls)) s u := by
    refine ⟨by rw [hustim, hstim]; rfl, ?_⟩
    rw [List.length_cons, hlen, Nat.add_comm, ← Nat.add_assoc]
    exact hu
  rw [Nat.add_assoc, run_add _ htick] at hu
  exact ⟨u, hrun, hstart.of_run hu, run_cfg_eq hrun.2, hust, hucnt⟩

/-- The capture of a well-timed sequence leaves its durations in the slots. -/
theorem State.Recorded.runsOver_capture {r : Nat} {pairs : List (Nat × Nat)} (hs : s.Recorded)
    (hst : s.st = St.releaseWait) (hcnt : s.cnt = 0) (hr : r ≤ s.cfg.ceiling)
    (hlen : pairs.length = 41) (hrange : PairsInRange s.cfg.ceiling pairs)
    (hstim : s.stim = Stim.capture r pairs ++ rest) :
    ∃ t, RunsOver (Stim.capture r pairs) s t ∧ t.st = St.thresh ∧ SlotsHold pairs t.slot.toList := by
  obtain ⟨t, hrun, htst, htstim, -, hslots, -⟩ := wellTimedSequenceIsCaptured s r pairs rest
    hs.inv.usable hst hcnt (hs.inv.hsum_early (.inr (.inr hst))) hr hlen hrange hstim
  refine ⟨t, ⟨by rw [htstim, hstim], by rwa [Stim.length_capture]⟩, htst, fun k hk => ?_⟩
  simpa only [Vector.getElem?_toList] using hslots k hk

/-- The engine is idle after a COMPLETE of READING with the frame `fb` (43_check_outcome.md R117). -/
structure State.ShowsReading (fb : Vector Byte 5) (s : State) : Prop where
  st : s.st = St.idle
  done : s.done = true
  outTag : s.outTag = .reading
  outHum : s.outHum = humField fb
  outTsign : s.outTsign = tsignField fb
  outTmag : s.outTmag = tmagField fb
  outFrame : s.outFrame = frameField fb

theorem showsReading_complete (s : State) : (complete .reading s).advance.ShowsReading s.fb :=
  ⟨rfl, rfl, rfl, rfl, rfl, rfl, rfl⟩

/-- THRESH, the 40 ticks of PACK and CHECK, when the slots decode to a frame with its checksum. -/
theorem State.Recorded.runsOver_reading (hs : s.Recorded) (hst : s.st = St.thresh)
    (hstim : s.stim = ts ++ rest) (hlen : ts.length = 42) (hr : Stim.noReset ts = true)
    (hbytes : ∀ j (h : j < 5), packedByte s.slot (dataSum s.slot 40) j 8 = fb[j])
    (hsum : payloadSum fb = fb[4]) :
    ∃ t, RunsOver ts s t ∧ t.ShowsReading fb ∧ t.slot = s.slot := by
  obtain ⟨us, vs, rfl, hus, husr, hvsr⟩ := Stim.noReset_split (n := 41) hr (by omega)
  rw [List.length_append] at hlen
  obtain ⟨j, rfl⟩ : ∃ j, vs = [j] := List.length_eq_one_iff.1 (by omega)
  rw [List.append_assoc] at hstim
  have hcsum : s.csum = 0#8 := (hs.decode.before (by simp [hst])).2
  obtain ⟨t, hrun, ht⟩ := runsOver_decode hs.inv.usable hst hcsum hus husr hstim
  have htrec : t.Recorded := hs.of_run hrun.2
  have htslot : t.slot = s.slot := ht.slot
  have hfb : t.fb = fb := Vector.ext fun j hj => by
    rw [htrec.decode.frame htrec.capture ht.st j hj, htslot, hbytes j hj]
  have htcsum : t.csum = t.fb[4] := by rw [htrec.decode.summed ht.st, hfb, hsum]
  have htstim := hrun.stim_eq hstim
  have hj : t.inputs.rst = false := by
    rw [inputs_of_cons htstim]
    simpa [Stim.noReset] using hvsr
  exact ⟨(complete .reading t).advance, hrun.trans <| .of_step htstim <|
    step_of_exec htrec.inv.usable hj ht.st (exec_check_of_match htcsum),
    hfb ▸ showsReading_complete t, htslot⟩

/-! ### The whole read -/

theorem humField_eq_append (fb : Vector Byte 5) : humField fb = fb[0] ++ fb[1] := by
  apply BitVec.eq_of_toNat_eq
  rw [humField_toNat, BitVec.toNat_append, ← Nat.shiftLeft_add_eq_or_of_lt fb[1].isLt, Nat.shiftLeft_eq]

theorem exists_frameBit_of_payload {b0 b1 b2 b3 b4 : Byte}
    (h : ¬ (b0 = 0#8 ∧ b1 = 0#8 ∧ b2 = 0#8 ∧ b3 = 0#8)) :
    ∃ k < 40, frameBit #v[b0, b1, b2, b3, b4] k = true := by
  by_contra hnone
  have hzero : ∀ j (hj : j < 5), #v[b0, b1, b2, b3, b4][j] = 0#8 := fun j hj =>
    by_contra fun hbyte => hnone (exists_frameBit hj hbyte)
  exact h ⟨hzero 0 (by decide), hzero 1 (by decide), hzero 2 (by decide), hzero 3 (by decide)⟩

/-- Settles O48: the three parts of the read follow one another, and the decoded frame is the one sent. -/
theorem wellTimedFrameIsRead : Obligations.WellTimedFrameIsRead := by
  intro s b0 b1 b2 b3 r al ah l short long drive tail rest hc hst hr hal hah hl hshort hlt hlong
    hpayload hdrive hdriver htail htailr hstim
  let fb : Vector Byte 5 := #v[b0, b1, b2, b3, b0 + b1 + b2 + b3]
  let pairs := framePairs fb al ah l short long
  have hframe : Stim.frame b0 b1 b2 b3 (b0 + b1 + b2 + b3) r al ah l short long =
    Stim.capture r pairs := Stim.frame_eq_capture fb r al ah l short long
  rw [hframe, List.append_assoc, List.append_assoc] at hstim
  have hrange : PairsInRange s.cfg.ceiling pairs :=
    pairsInRange_framePairs hal hah hl ⟨hshort, by omega⟩ ⟨by omega, hlong⟩
  obtain ⟨u, hrelease, hu, hucfg, hust, hucnt⟩ :=
    runsOver_release hc hst hstim rfl rfl hdriver hdrive
  obtain ⟨v, hcapture, hvst, hslots⟩ := hu.runsOver_capture hust hucnt (hucfg ▸ hr)
    framePairs_length (hucfg ▸ hrange) (hrelease.stim_eq hstim)
  obtain ⟨t, hreading, hshows, hslot⟩ := (hu.of_run hcapture.2).runsOver_reading hvst
    (hcapture.stim_eq (hrelease.stim_eq hstim)) htail htailr
    (hslots.packedByte_eq hlt (exists_frameBit_of_payload hpayload)) rfl
  have hrun := (hrelease.trans hcapture).trans hreading
  have hsum := hslots.sum_eq (by rw [Vector.length_toList, framePairs_length])
  refine ⟨_, t, hrun.2, hrun.stim_eq (by simpa using hstim), ?_, hshows.st, hshows.done, hshows.outTag,
    hshows.outHum.trans (humField_eq_append fb), hshows.outTsign,
    hshows.outTmag ▸ tmagField_toNat fb, hshows.outFrame⟩
  rw [hslot, hsum]
  simp only [List.length_append, List.length_cons, Stim.length_capture, hdrive, htail]
  omega

end Sys2Proof.Machine
end
